-- ==== Sys2Proof/Word.lean ====
section
/-! DEFINITION. Characters, check values and fixed tables: the plain carriers of the model. -/

namespace Sys2Proof

/-- A byte, and a character by the code of R150. -/
abbrev Byte := BitVec 8

/-- A run of characters. -/
abbrev Text := List Byte

/-- A check value: three bytes, shown as six hex digits (Table 1-1). -/
abbrev CheckValue := BitVec 24

/-- The characters of a word of the manual, by the code of R150. -/
def txt (s : String) : Text := s.toList.map fun c => BitVec.ofNat 8 c.toNat

/-- A fixed number of places, numbered from 0. -/
abbrev Table (n : Nat) (α : Type) := Vector α n

/-- The content of place `i`; `d` stands for a place the table does not have. -/
def look {n : Nat} {α : Type} (t : Table n α) (d : α) (i : Nat) : α := (t[i]?).getD d

/-- The table with `x` in place `i`; a place the table does not have changes nothing. -/
def put {n : Nat} {α : Type} (t : Table n α) (i : Nat) (x : α) : Table n α := t.setIfInBounds i x

end Sys2Proof
end

