-- ==== Sys2Proof/Syntax.lean ====
section
/-! DEFINITION. The commands of the module: one constructor of `Instr` for each row of the table of operations and
events, with the operands each one carries. -/

namespace Sys2Proof.Machine

/-- An argument of a request line as its owning block meets it (R174, R175): left out, given in a form that is not the
argument's form, or given with a value. -/
inductive Arg (α : Type) where
  | absent
  | malformed
  | val (a : α)
  deriving DecidableEq, Repr

/-- R2: the class of a slot. -/
inductive KeyClass where
  | root | transport | direct
  deriving DecidableEq, Repr

/-- The two cipher families. -/
inductive Family where
  | block64 | block128
  deriving DecidableEq, Repr

/-- Table 1-2: the five algorithm pairs, the only ones a slot can hold (R2). -/
inductive AlgPair where
  | b64k16 | b64k24 | b128k16 | b128k24 | b128k32
  deriving DecidableEq, Repr

/-- R9: a delivery budget, a number or UNLIMITED. -/
inductive Budget where
  | unlimited
  | count (n : Nat)
  deriving DecidableEq, Repr

/-- R26: the custodian groups. -/
inductive Group where
  | a | b
  deriving DecidableEq, Repr

/-- R43: the parity policy. -/
inductive Policy where
  | strict | adjust
  deriving DecidableEq, Repr

/-- R72: the ten step kinds. -/
inductive StepKind where
  | await | hail | identify | route | loadDirect | loadDerived | verify | tag | seal | pause
  deriving DecidableEq, Repr

/-- R83: the WHICH argument of READ-PLAN. -/
inductive Which where
  | installed | retiring | draft
  deriving DecidableEq, Repr

/-- R90: the kind of a window. -/
inductive WindowKind where
  | route | exclude
  deriving DecidableEq, Repr

/-- R90: the owner of a window. -/
inductive Owner where
  | operator | custodian
  deriving DecidableEq, Repr

/-- R176: the two levels of Link Port requests. -/
inductive Level where
  | operator | custodian
  deriving DecidableEq, Repr

/-- R98: the TEST argument of SET-WINDOW. -/
inductive TestKind where
  | any | mask | span
  deriving DecidableEq, Repr

/-- R91: the default route. -/
inductive DefaultRoute where
  | reject
  | plan (p : Nat)
  deriving DecidableEq, Repr

/-- R135: the parity of a bench line. -/
inductive Parity where
  | none | odd | even
  deriving DecidableEq, Repr

/-- The operands of a plan step as EDIT-PLAN gives them (R80, Table 4-2). -/
structure StepArgs where
  slot     : Arg Nat := .absent
  tslot    : Arg Nat := .absent
  pos      : Arg Nat := .absent
  text     : Arg Text := .absent
  duration : Arg Nat := .absent
  limit    : Arg Nat := .absent
  timeout  : Arg Nat := .absent
  cont     : Arg Bool := .absent
  deriving DecidableEq, Repr

/-- The arguments of ASSEMBLE-BEGIN (R42). -/
structure AssembleArgs where
  slot   : Arg Nat := .absent
  cls    : Arg KeyClass := .absent
  family : Arg Family := .absent
  len    : Arg Nat := .absent
  parts  : Arg Nat := .absent
  cv     : Arg CheckValue := .absent
  label  : Arg Text := .absent
  kver   : Arg Nat := .absent
  budget : Arg Budget := .absent
  deriving DecidableEq, Repr

/-- The arguments of SET-WINDOW with KIND (R98), LEVEL apart. -/
structure WindowArgs where
  window  : Arg Nat := .absent
  kind    : Arg WindowKind := .absent
  model   : Arg Text := .absent
  test    : Arg TestKind := .absent
  base    : Arg (BitVec 32) := .absent
  mask    : Arg (BitVec 32) := .absent
  low     : Arg (BitVec 32) := .absent
  high    : Arg (BitVec 32) := .absent
  minfw   : Arg Nat := .absent
  plan    : Arg Nat := .absent
  enabled : Arg Bool := .absent
  owner   : Arg Owner := .absent
  deriving DecidableEq, Repr

/-- A Link Port line that steps 1 to 6 of Table 10-1 keep from its block: discarded empty, answered untagged, or
answered with the code of the port's own step. `badForm` is a line whose word is in the catalogue and whose text fails
step 6; it tells whether the word is STATUS, which step 4 lets through in FAILED mode. -/
inductive RefusedLine where
  | empty
  | overlong
  | badCheck
  | noTag
  | overrun
  | unknown (tag : Text)
  | badForm (tag : Text) (status : Bool)
  deriving DecidableEq, Repr

/-- R31: a panel line that the port refuses itself. -/
inductive RefusedPanelLine where
  | long | unknown | badSyntax
  deriving DecidableEq, Repr

end Sys2Proof.Machine

namespace Sys2Proof

open Machine

/-- The commands. A request row is the event at which its line ends at the Link Port, with check, tag and form in order
(a line out of order is `linkLineRefused`); a panel row is the event at which its line's CR LF arrives. The `tag` of a
request is its digits as they arrived (R177). -/
inductive Instr where
  | status (tag : Text)
  | restart (tag : Text)
  | listSlots (tag : Text)
  | readSlot (tag : Text) (slot : Arg Nat)
  | suspendSlot (tag : Text) (slot : Arg Nat)
  | resumeSlot (tag : Text) (slot : Arg Nat)
  | eraseSlot (tag : Text) (slot : Arg Nat)
  | setBudget (tag : Text) (slot : Arg Nat) (budget : Arg Budget)
  | setScrub (tag : Text) (interval : Arg Nat)
  | enrolCustodian (tag : Text) (id : Arg Nat) (group : Arg Group) (label : Arg Text)
  | removeCustodian (tag : Text) (id : Arg Nat)
  | unlockCustodian (tag : Text) (id : Arg Nat)
  | setDualWindow (tag : Text) (seconds : Arg Nat)
  | setParityPolicy (tag : Text) (policy : Arg Policy)
  | assembleBegin (tag : Text) (args : AssembleArgs)
  | assembleCancel (tag : Text)
  | openIssue (tag : Text) (slot : Arg Nat) (pfx : Arg (BitVec 24)) (first last step threshold : Arg Nat)
  | extendIssue (tag : Text) (slot last : Arg Nat)
  | setIssueWarning (tag : Text) (slot threshold : Arg Nat)
  | readIssue (tag : Text) (slot : Arg Nat)
  | readPlan (tag : Text) (plan : Arg Nat)
  | readPlanStep (tag : Text) (plan : Arg Nat) (which : Arg Which) (step : Arg Nat)
  /-- `extra` tells that the line gives an argument of EDIT-PLAN that no step kind takes (LABEL). -/
  | editPlanSet (tag : Text) (plan step : Arg Nat) (kind : Arg StepKind) (ops : StepArgs) (extra : Bool)
  | editPlanInsert (tag : Text) (plan step : Arg Nat) (kind : Arg StepKind) (ops : StepArgs) (extra : Bool)
  /-- `extra` tells that the line gives an argument that the action does not take. -/
  | editPlanDelete (tag : Text) (plan step : Arg Nat) (extra : Bool)
  | editPlanLabel (tag : Text) (plan : Arg Nat) (label : Arg Text) (extra : Bool)
  | discardDraft (tag : Text) (plan : Arg Nat)
  | installPlan (tag : Text) (plan : Arg Nat)
  | removePlan (tag : Text) (plan : Arg Nat)
  | readWindow (tag : Text) (window : Arg Nat) (level : Level)
  | readWindowSummary (tag : Text) (level : Level)
  | setWindow (tag : Text) (args : WindowArgs) (level : Level)
  /-- `extra` tells that the line gives an argument other than WINDOW, ENABLED and LEVEL (R99). -/
  | setWindowEnabled (tag : Text) (window : Arg Nat) (enabled : Arg Bool) (extra : Bool) (level : Level)
  | clearWindow (tag : Text) (window : Arg Nat) (level : Level)
  | setDefaultRoute (tag : Text) (route : Arg DefaultRoute)
  | queueRun (tag : Text) (lane plan rep runTag : Arg Nat)
  /-- `flush` is the FLUSH argument, whose one value is YES. -/
  | abortLane (tag : Text) (lane : Arg Nat) (flush : Arg Unit)
  | setLane (tag : Text) (lane : Arg Nat) (online : Arg Bool) (rate : Arg Nat) (parity : Arg Parity)
  | readLane (tag : Text) (lane : Arg Nat)
  | clearCounters (tag : Text) (lane : Arg Nat)
  | readRecord (tag : Text)
  /-- `extra` tells that the line gives a PART other than the three of R168, or INDEX without PART=DELIVERY. -/
  | readRecordEntry (tag : Text) (lane ordinal : Arg Nat) (extra : Bool)
  | readRecordDelivery (tag : Text) (lane ordinal index : Arg Nat)
  | readRecordVoided (tag : Text) (lane ordinal : Arg Nat) (extra : Bool)
  | readRecordNotes (tag : Text) (lane ordinal : Arg Nat) (extra : Bool)
  | discardRecord (tag : Text) (lane ordinal : Arg Nat)
  | acknowledgeTamper (tag : Text)
  | linkLineRefused (why : RefusedLine)
  | linkTransmitEnd
  | newcode (id : Nat) (code again : Text)
  | logon (id : Nat) (code : Text)
  | logoff (id : Nat)
  | showPanel
  | component (id : Nat) (key : Text)
  | confirmYes (id : Nat)
  | confirmNo (id : Nat)
  | panelLineRefused (why : RefusedPanelLine)
  | panelReplySent
  | dualWindowExpiry
  | scrubTimerExpiry
  /-- For the scrubber's TAG, `intact` says whether the slot's stored contents were read as they were written; the scrub is
  there to find that they were not (section 1.6), and no row damages them. The other operations do not read it (entry 6). -/
  | cipherOperationComplete (intact : Bool)
  | transmitStart (line : Fin 8)
  | transmitEnd (line : Fin 8)
  /-- A whole frame's last character: its kind, body and two check characters as received, and whether a character of
  it had a character error (R136). -/
  | benchFrameReceived (line : Fin 8) (kind : Byte) (body : Text) (check : BitVec 16) (bad : Bool)
  | bodyLengthOverlong (line : Fin 8)
  | gapTimerExpiry (line : Fin 8)
  | stepTimerExpiry (lane : Fin 8)
  | cradleContactChange (line : Fin 8) (closed : Bool)
  | settleTimerExpiry (line : Fin 8)
  | reservationRetry (lane : Fin 8)
  | tamperEvent
  | tamperPowerOff
  | powerOn
  | startUpAfterRestart
  | powerLoss
  /-- For each of the self-test's four operations, whether its output agrees with the expected one (R188). -/
  | selfTestComplete (check derive wrap tag : Bool)
  /-- The data bits, the parity bit and the stop bit as the receiver samples them (R136). -/
  | benchCharacterReceived (line : Fin 8) (data : Byte) (parityBit stopBit : Bool)
  | linkCharacterReceived (c : Byte)
  | panelCharacterReceived (c : Byte)
  | panelMessageSent
  deriving DecidableEq, Repr

end Sys2Proof
end

