-- ==== Sys2Proof/Decode.lean ====
section
/-! DEFINITION. The commands of this block are not words: no row of the table gives bits. -/

namespace Sys2Proof

/-- The command that a word spells by the table's bits. No row gives any, so no word spells a command. -/
def decodeTableWord (_nbits _w : Nat) : Option Instr := none

end Sys2Proof
end

