-- ==== Sys2Proof/Config.lean ====
section
/-! DEFINITION. The fixed quantities of Table 0-2. The free value `Config.cipher` stands in Machine/Cipher.lean, beside what
the manual says of it. -/

namespace Sys2Proof.Config

/-- Greatest finite delivery budget (Table 0-2, R10). -/
def budgetMax : Nat := 1000000
/-- Greatest scrub interval in seconds (R14). -/
def scrubMax : Nat := 3600
/-- Factory scrub interval (R14). -/
def scrubFactory : Nat := 30
/-- Bounds of the dual window in seconds (R40). -/
def dualWindowMin : Nat := 60
def dualWindowMax : Nat := 1800
/-- Factory dual window (R40). -/
def dualWindowFactory : Nat := 300
/-- Greatest issue number (R53). -/
def issueMax : Nat := 16777215
/-- Greatest warning threshold (R53). -/
def thresholdMax : Nat := 65535
/-- Threshold of an account whose OPEN-ISSUE gives none (R53). -/
def thresholdDefault : Nat := 100
/-- Places of a returned list (R64). -/
def returnedMax : Nat := 8
/-- Most steps of a plan version (R71). -/
def stepsMax : Nat := 24
/-- Most LOAD steps of a plan version (R84). -/
def loadsMax : Nat := 10
/-- Most requests of a run queue (R105). -/
def queueMax : Nat := 4
/-- Places of the Record Queue (R161). -/
def recordPlaces : Nat := 48
/-- Places of the notice buffer (R179). -/
def noticePlaces : Nat := 16
/-- Characters of a request line (R172). -/
def linkLineMax : Nat := 240
/-- Characters of a panel line (R31). -/
def panelLineMax : Nat := 120
/-- Messages of the panel's output queue (R32). -/
def panelMessagesMax : Nat := 8
/-- Greatest body of a bench frame (R151). -/
def bodyMax : Nat := 200
/-- Greatest value of a 16-bit field of a table or a saturating counter (R143, R179). -/
def word16Max : Nat := 65535
/-- The settle of the cradle contact, in ms (R138). -/
def settleMs : Nat := 50
/-- The gap of a bench frame, in ms (R141). -/
def gapMs : Nat := 20

end Sys2Proof.Config
end

