-- ==== Sys2Proof/Machine/State.lean ====
section
/-! DEFINITION. The state of the module, as plain data, and its state after reset. -/

namespace Sys2Proof.Machine

/-! ## Lines of text (chapters 2 and 10) -/

/-- A value of a line. `label` is written quoted where R174 asks for it. -/
inductive Value where
  | num (n : Nat)
  | hex (digits : Nat) (n : Nat)
  | word (s : String)
  | label (t : Text)
  | raw (t : Text)
  deriving DecidableEq, Repr

/-- One field of a line. -/
inductive Item where
  | word (s : String)
  | raw (t : Text)
  | field (key : String) (v : Value)
  deriving DecidableEq, Repr

/-- A line the module sends, without its check suffix: items separated by one space. -/
abbrev Line := List Item

/-- The error codes of Table 10-2. -/
inductive ErrCode where
  | badSyntax | unknown | range | notAuthorised | busy | queueFull | laneOffline | noPlan | inUse | wrongState
  | tampered | mismatch | empty | draftInvalid | hidden | failed
  deriving DecidableEq, Repr

/-- The panel error codes of Table 2-3. -/
inductive PanelErr where
  | long | unknown | badSyntax | range | notEnrolled | locked | denied | already | panelFull | notLoggedOn
  | wrongState | mismatch | notAuthorised | noAssembly | busy | pending | contributed | length | parity | notHeld
  | checking
  deriving DecidableEq, Repr

/-! ## Link Port (chapter 10) -/

/-- R172: the receiver states of the Link Port. -/
inductive LinkRx where
  | closed | collecting | discarding | holding | skipping
  deriving DecidableEq, Repr

/-- A line that has ended: one that the port answers itself, or a request. -/
inductive LinkLine where
  | refused (why : RefusedLine)
  | request (i : Instr)
  deriving DecidableEq, Repr

/-- The line in the transmitter: whether it is a reply, and its characters as they go out (R173, R178). -/
structure Sent where
  isReply : Bool
  line    : Line
  wire    : Text
  deriving DecidableEq, Repr

/-- R172, R178 to R184: the Link Port. -/
structure LinkPort where
  rx       : LinkRx
  buffer   : Text
  held     : Option LinkLine
  /-- The overrun mark, with whether the last discarded character was an LF (R178). -/
  mark     : Option Bool
  sending  : Option Sent
  reply    : Option Line
  notices  : List Line
  gap      : Bool
  lost     : Nat
  hold     : List Line
  draining : Bool
  deriving DecidableEq, Repr

/-! ## Panel Port (chapter 2) -/

/-- A panel line that has ended. -/
inductive PanelLine where
  | refused (why : RefusedPanelLine)
  | command (i : Instr)
  deriving DecidableEq, Repr

/-- A line of the panel's output queue. -/
structure PanelOut where
  isReply : Bool
  line    : Line
  deriving DecidableEq, Repr

/-- R32: the Panel Port. -/
structure PanelPort where
  buffer : Text
  cr     : Bool
  long   : Bool
  skip   : Bool
  held   : Option PanelLine
  out    : List PanelOut
  deriving DecidableEq, Repr

/-! ## Authorisation Unit (chapter 2) -/

/-- R26: the states of a roster entry that is not EMPTY. -/
inductive EntryState where
  | pending | enrolled | locked
  deriving DecidableEq, Repr

/-- R26: the passcode verifier, a hidden value that LOGON compares and nothing else reads. DEDUCED (entry 7): it is
carried by the passcode it was computed from, so that it matches that passcode alone. -/
structure Verifier where
  passcode : Text
  deriving DecidableEq, Repr

/-- R26, Table 2-1: a roster entry that is not EMPTY. -/
structure Custodian where
  state    : EntryState
  group    : Group
  label    : Text
  verifier : Option Verifier
  failed   : Nat
  deriving DecidableEq, Repr

/-- R37: the authorisation state. -/
inductive AuthState where
  | none | single | dual
  deriving DecidableEq, Repr

/-- The Authorisation Unit. Roster entry `n` stands at place `n - 1`. -/
structure AuthUnit where
  roster     : Table 12 (Option Custodian)
  sessions   : List Nat
  state      : AuthState
  dualTimer  : Option Nat
  dualWindow : Nat
  deriving DecidableEq, Repr

/-! ## Component Assembler (chapter 2) -/

/-- R41: the phases of an assembly. -/
inductive AsmPhase where
  | collecting | checking | confirming | finishingCheck | finishingTag
  deriving DecidableEq, Repr

/-- R41: the held component. -/
structure HeldComponent where
  id    : Nat
  bytes : Text
  cv    : Option CheckValue
  deriving DecidableEq, Repr

/-- R41, Table 2-6: the open assembly; `finished` is the finished key of R47 and `finishedCv` its check value. -/
structure Assembly where
  slot       : Nat
  parts      : Nat
  expected   : Option CheckValue
  alg        : AlgPair
  done       : List (Nat × CheckValue)
  acc        : Text
  held       : Option HeldComponent
  phase      : AsmPhase
  number     : BitVec 16
  finished   : Option Text
  finishedCv : Option CheckValue
  deriving DecidableEq, Repr

/-- The Component Assembler. -/
structure Assembler where
  record : Option Assembly
  count  : BitVec 16
  policy : Policy
  deriving DecidableEq, Repr

/-! ## Key Store (chapter 1) -/

/-- R4: the states of a slot that is not EMPTY. -/
inductive HeldState where
  | assembling | active | suspended | faulted
  deriving DecidableEq, Repr

/-- R1: what completion of an assembly writes. -/
structure Material where
  key : Text
  cv  : CheckValue
  tag : Text
  deriving DecidableEq, Repr

/-- R1, R9: the delivery budget and the reserved count of a ROOT or DIRECT slot. -/
structure Allowance where
  budget   : Budget
  reserved : Nat
  deriving DecidableEq, Repr

/-- R1, R11: a binding. -/
structure Binding where
  lane : Nat
  held : Nat
  deriving DecidableEq, Repr

/-- R1, Table 1-1: a slot that is not EMPTY. `material` is absent while ASSEMBLING, `allowance` in a TRANSPORT slot. -/
structure SlotRec where
  state     : HeldState
  cls       : KeyClass
  alg       : AlgPair
  label     : Text
  kver      : Nat
  allowance : Option Allowance
  bound     : List Binding
  material  : Option Material
  deriving DecidableEq, Repr

/-- A slot: `none` is EMPTY, which holds a state and nothing else (R1). -/
abbrev Slot := Option SlotRec

/-- The Key Store. -/
structure KeyStore where
  slots         : Table 64 Slot
  entryNos      : Table 64 (BitVec 16)
  scrubPointer  : Nat
  scrubInterval : Nat
  scrubTimer    : Option Nat
  deriving DecidableEq, Repr

/-! ## Issue Counter Unit (chapter 3) -/

/-- R53, Table 3-1: an issue account. -/
structure Account where
  pfx       : BitVec 24
  first     : Nat
  last      : Nat
  step      : Nat
  next      : Nat
  returned  : List Nat
  threshold : Nat
  armed     : Bool
  consumed  : Nat
  voided    : Nat
  deriving DecidableEq, Repr

/-- R62: a terminal key identifier, prefix and issue number. -/
structure Tki where
  pfx    : BitVec 24
  number : Nat
  deriving DecidableEq, Repr

/-! ## Cipher Unit (chapter 1) -/

/-- R18: the operation of a lane's request. -/
inductive LaneOp where
  | derive | check | wrap
  deriving DecidableEq, Repr

/-- R18, R122: a lane's request. -/
structure LaneRequest where
  ordinal : BitVec 16
  op      : LaneOp
  step    : Nat
  slot    : Nat
  tslot   : Nat
  tki     : Option Tki
  key     : Option Text
  header  : Option Text
  deriving DecidableEq, Repr

/-- R18: a posted request, by its kind of requester. -/
inductive CipherRequest where
  | lane (r : LaneRequest)
  | asmCheck (number : BitVec 16) (alg : AlgPair) (key : Text)
  | asmTag (number : BitVec 16) (cls : KeyClass) (alg : AlgPair) (key : Text) (kver : Nat) (label : Text)
  | scrub (slot : Nat) (entryNo : BitVec 16)
  deriving DecidableEq, Repr

/-- R17, Table 1-7: an operation's inputs, as read at its start. -/
inductive CipherInput where
  | check (alg : AlgPair) (key : Text)
  | derive (alg : AlgPair) (root : Text) (tki : Text)
  | wrap (alg : AlgPair) (transport : Text) (header : Text) (key : Text)
  | tag (cls : KeyClass) (alg : AlgPair) (key : Text) (kver : Nat) (label : Text)
  deriving DecidableEq, Repr

/-- R20: the operation in flight. -/
structure Executing where
  requester : Nat
  request   : CipherRequest
  input     : CipherInput
  dropped   : Bool
  deriving DecidableEq, Repr

/-- The Cipher Unit. Requesters are numbered in the cyclic order of R19: lanes 0 to 7, then 8 for the Component
Assembler and 9 for the scrubber. -/
structure CipherUnit where
  waiting   : Table 10 (Option CipherRequest)
  executing : Option Executing
  last      : Nat
  selfTest  : Bool
  deriving DecidableEq, Repr

/-! ## Plan Store (chapter 4) -/

/-- R72: a step record. -/
structure Step where
  kind     : StepKind
  slot     : Option Nat := none
  tslot    : Option Nat := none
  pos      : Option Nat := none
  text     : Option Text := none
  duration : Option Nat := none
  limit    : Option Nat := none
  timeout  : Option Nat := none
  cont     : Option Bool := none
  deriving DecidableEq, Repr

/-- R71: a draft, and what a version holds besides its number. -/
structure Draft where
  label : Text
  steps : List Step
  deriving DecidableEq, Repr

/-- R71: a numbered version. -/
structure Version where
  number : Nat
  label  : Text
  steps  : List Step
  deriving DecidableEq, Repr

/-- R70, Table 4-1: a plan. User sets are ascending lists of lanes. -/
structure Plan where
  installed : Option Version
  users     : List Nat
  retiring  : Option Version
  rusers    : List Nat
  draft     : Option Draft
  counter   : Nat
  deriving DecidableEq, Repr

/-! ## Window Table (chapter 5) -/

/-- R94: a serial test. -/
inductive SerialTest where
  | any
  | mask (base mask : BitVec 32)
  | span (low high : BitVec 32)
  deriving DecidableEq, Repr

/-- R90, Table 5-1: a defined window. `plan` is present in a ROUTE window. -/
structure Window where
  enabled : Bool
  owner   : Owner
  kind    : WindowKind
  model   : Text
  test    : SerialTest
  minfw   : Option Nat
  plan    : Option Nat
  deriving DecidableEq, Repr

/-! ## Runs (chapters 6, 7 and 9) -/

/-- R147: a terminal's identity. -/
structure Identity where
  model    : Text
  serial   : BitVec 32
  firmware : BitVec 16
  sealed   : Bool
  deriving DecidableEq, Repr

/-- R145, Table 7-4: the refusal reasons of a terminal. -/
inductive Refuse where
  | positionLocked | badAuthenticator | unsupported | sealed | full
  deriving DecidableEq, Repr

/-- R113: the phase of a delivery entry. -/
inductive DeliveryPhase where
  | reserved | delivering | accepted | refused | unanswered
  deriving DecidableEq, Repr

/-- R113: a delivery entry. -/
structure Delivery where
  pos    : Nat
  slot   : Nat
  tslot  : Nat
  cv     : Option CheckValue
  tki    : Option Tki
  phase  : DeliveryPhase
  reason : Option Refuse
  deriving DecidableEq, Repr

/-- R120: a note of a run. -/
inductive NoteKind where
  | timeout | checkMismatch
  deriving DecidableEq, Repr

structure Note where
  step : Nat
  kind : NoteKind
  deriving DecidableEq, Repr

/-- R11, R60, R87, Table 6-3: why a run could not bind what it needs. -/
inductive BindReason where
  | noPlan | slotState | cls | budget | weakTransport | noIssueAccount | issueExhausted
  deriving DecidableEq, Repr

/-- R96: what decided a route. -/
inductive RouteSource where
  | window (w : Nat)
  | default
  deriving DecidableEq, Repr

/-- R124, Table 6-5: the outcome that an aborted delivery would have given. -/
inductive AbortReason where
  | checkMismatch | terminalRefused | timeout | terminalStalled | protocol
  deriving DecidableEq, Repr

/-- Table 6-6: the outcomes, with their reasons. -/
inductive Outcome where
  | complete
  | notStarted (r : BindReason)
  | keyUnavailable (r : BindReason)
  | routeFailed (routes : Bool)
  | rejectedRoute (s : RouteSource)
  | terminalRefused (r : Refuse)
  | checkMismatch (pos : Nat)
  | timeout
  | terminalStalled
  | protocol
  | removed
  | keyFault (slot : Nat)
  | aborted (r : Option AbortReason)
  | tamper
  | interrupted
  deriving DecidableEq, Repr

/-- R163, Table 9-1: an entry of the Record Queue. -/
structure Record where
  closed     : Bool
  lane       : Nat
  ordinal    : BitVec 16
  tag        : Nat
  iteration  : Nat
  plan       : Nat
  version    : Option Nat
  routed     : Option (Nat × Nat)
  outcome    : Option Outcome
  failStep   : Option Nat
  identity   : Option Identity
  deliveries : List Delivery
  voided     : List Tki
  notes      : List Note
  deriving DecidableEq, Repr

/-- The Record Queue (R161). -/
structure RecordQueue where
  entries      : List Record
  waiting      : List Nat
  told         : List Nat
  fullReported : Bool
  deriving DecidableEq, Repr

/-- R106: the lane states. -/
inductive LaneState where
  | offline | idle | held | running
  deriving DecidableEq, Repr

/-- R105: a run request. -/
structure RunRequest where
  plan      : Nat
  rep       : Nat
  tag       : Nat
  iteration : Nat
  deriving DecidableEq, Repr

/-- R113: which version the step index counts in. -/
inductive Following where
  | start | routed
  deriving DecidableEq, Repr

/-- R128: where a run stands in its current step: waiting at AWAIT, in a LOAD step's compute phase, with a frame handed
to its line, or at PAUSE. -/
inductive Stage where
  | awaiting | compute | frame | pausing
  deriving DecidableEq, Repr

/-- R113, Table 6-4: the run context; `steps` are the steps the lane was given (R87), `header` the authenticated header
it posted (R160). -/
structure RunContext where
  ordinal      : BitVec 16
  plan         : Nat
  version      : Option Nat
  steps        : List Step
  routed       : Option (Nat × Nat)
  following    : Following
  step         : Nat
  stage        : Stage
  identity     : Option Identity
  deliveries   : List Delivery
  frameSent    : Bool
  waits        : Nat
  abortPending : Bool
  notes        : List Note
  heldKey      : Option Text
  header       : Option Text
  deriving DecidableEq, Repr

/-- R105, Table 6-1: a lane. A running timer holds the milliseconds it was started from. -/
structure Lane where
  state   : LaneState
  online  : Bool
  queue   : List RunRequest
  ctx     : Option RunContext
  timer   : Option Nat
  ordinal : BitVec 16
  deriving DecidableEq, Repr

/-! ## Bench lines (chapters 7 and 8) -/

/-- R134, Table 7-2: the five rates. -/
inductive Rate where
  | r9600 | r19200 | r38400 | r57600 | r115200
  deriving DecidableEq, Repr

/-- R153, Table 8-2: the request kinds. -/
inductive RequestKind where
  | hail | askIdent | key | askCheck | tag | seal
  deriving DecidableEq, Repr

/-- R153, Table 8-2: the reply kinds. -/
inductive ReplyKind where
  | ready | ident | accept | check | done | refuse | wait
  deriving DecidableEq, Repr

/-- A frame handed to a line: the run it serves, its kind and its body (R140, R151). -/
structure OutFrame where
  ordinal : BitVec 16
  kind    : RequestKind
  body    : Text
  deriving DecidableEq, Repr

/-- The transmitter (R134): a frame being sent has the settings it was begun with and its characters. -/
inductive BenchTx where
  | idle
  | sending (f : OutFrame) (rate : Rate) (parity : Parity) (chars : Text)
  deriving DecidableEq, Repr

/-- The receiver (R141): a frame being collected has its characters so far, its bad-frame flag and the settings it was
begun with (R135). -/
inductive BenchRx where
  | closed
  | hunting
  | collecting (chars : Text) (bad : Bool) (rate : Rate) (parity : Parity)
  deriving DecidableEq, Repr

/-- R134, Table 7-1: a bench line. -/
structure BenchLine where
  rate        : Rate
  parity      : Parity
  /-- The cradle contact, closed by a terminal (R138). -/
  contact     : Bool
  presence    : Bool
  settle      : Option Nat
  served      : Bool
  tx          : BenchTx
  next        : Option OutFrame
  rx          : BenchRx
  gapTimer    : Option Nat
  expected    : Option ReplyKind
  checkErr    : Nat
  unsolicited : Nat
  deriving DecidableEq, Repr

/-! ## The module -/

/-- R188: the mode. -/
inductive Mode where
  | normal | failed
  deriving DecidableEq, Repr

/-- R183: the cause of a start-up. -/
inductive StartCause where
  | powerOn | restart
  deriving DecidableEq, Repr

/-- The whole module. -/
structure State where
  link         : LinkPort
  panel        : PanelPort
  auth         : AuthUnit
  asm          : Assembler
  keys         : KeyStore
  cipher       : CipherUnit
  accounts     : Table 64 (Option Account)
  plans        : Table 16 Plan
  windows      : Table 16 (Option Window)
  defaultRoute : DefaultRoute
  lanes        : Table 8 Lane
  lines        : Table 8 BenchLine
  records      : RecordQueue
  /-- R185: the tamper latch. -/
  latch        : Bool
  /-- R186: the counts of slots and accounts of the first tamper event taken with the supply off. -/
  offRecord    : Option (Nat × Nat)
  mode         : Mode
  /-- A start-up under way (R188). -/
  startUp      : Option StartCause
  power        : Bool
  /-- The model's own: the commands that wait, first in, first out. -/
  pending      : List Instr
  deriving DecidableEq, Repr

/-- No command of this block stops the machine, so there is no fault: a request out of place is refused with a code and
a next state (INVENTORY.md, Faults). Nobody raises one. -/
inductive Fault where
  deriving DecidableEq, Repr

/-- Why a command has no meaning. -/
inductive Refusal where
  /-- Raised by `exec`'s arm of a command that has no meaning yet. Safe: the machine stops. No arm raises it now. -/
  | notModelled (mnemonic : String)
  deriving DecidableEq, Repr

/-! ## Values at reset -/

/-- R149, Table 7-6: a line of a lane that is not up, with its stored settings and its cradle contact. -/
def BenchLine.down (rate : Rate) (parity : Parity) (contact : Bool) : BenchLine :=
  { rate := rate, parity := parity, contact := contact, presence := false, settle := none, served := false, tx := .idle,
    next := none, rx := .closed, gapTimer := none, expected := none, checkErr := 0, unsolicited := 0 }

/-- R133, Table 6-9: a lane that is not up, with its stored setting and ordinal. -/
def Lane.down (online : Bool) (ordinal : BitVec 16) : Lane :=
  { state := .offline, online := online, queue := [], ctx := none, timer := none, ordinal := ordinal }

/-- R70: a plan fresh from the factory. -/
def Plan.factory : Plan :=
  { installed := none, users := [], retiring := none, rusers := [], draft := none, counter := 0 }

/-- R184, Table 10-8: the Link Port before STARTED is placed. -/
def LinkPort.down : LinkPort :=
  { rx := .closed, buffer := [], held := none, mark := none, sending := none, reply := none, notices := [],
    gap := false, lost := 0, hold := [], draining := false }

/-- R32: the Panel Port after a start-up. -/
def PanelPort.down : PanelPort :=
  { buffer := [], cr := false, long := false, skip := false, held := none, out := [] }

/-- R25: the Cipher Unit when start-up begins at power-on. -/
def CipherUnit.down : CipherUnit :=
  { waiting := Vector.replicate 10 none, executing := none, last := 9, selfTest := false }

/-- R171: the Record Queue's volatile items after a start-up. -/
def RecordQueue.down (entries : List Record) : RecordQueue :=
  { entries := entries, waiting := [], told := [], fullReported := false }

/-- The module as it leaves the vendor, with its supply off and its cradles empty. Factory values: R14, R16, R40, R43,
R70, R90, R91, R105, R134, R185; the rest is entry 2 of the log (DESIGN CHOICE). -/
def State.factory : State :=
  { link := .down
    panel := .down
    auth := { roster := Vector.replicate 12 none, sessions := [], state := .none, dualTimer := none,
              dualWindow := Config.dualWindowFactory }
    asm := { record := none, count := 0, policy := .adjust }
    keys := { slots := Vector.replicate 64 none, entryNos := Vector.replicate 64 0, scrubPointer := 0,
              scrubInterval := Config.scrubFactory, scrubTimer := none }
    cipher := .down
    accounts := Vector.replicate 64 none
    plans := Vector.replicate 16 .factory
    windows := Vector.replicate 16 none
    defaultRoute := .reject
    lanes := Vector.replicate 8 (.down true 0)
    lines := Vector.replicate 8 (.down .r19200 .none false)
    records := .down []
    latch := false
    offRecord := none
    mode := .normal
    startUp := none
    power := false
    pending := [] }

/-- The characters of `! STARTED CAUSE=POWER-ON MODE=NORMAL INTERRUPTED=0` as they go out: with the check suffix of R173
and CR LF. -/
def startedWire : Text := txt "! STARTED CAUSE=POWER-ON MODE=NORMAL INTERRUPTED=0 *DE23\r\n"

/-- The module right after reset: start-up has ended after the first power-on of a module fresh from the vendor, the
self-test passed, the cradles empty, and the transmitter has taken STARTED (R188, R190, R183, R178, R133, R149, R14).
DESIGN CHOICE (entry 1): the manual names three reset events and no single reset state. -/
def State.reset : State :=
  { State.factory with
    power := true
    keys := { State.factory.keys with scrubTimer := some Config.scrubFactory }
    lanes := Vector.replicate 8 { Lane.down true 0 with state := .idle }
    lines := Vector.replicate 8 { BenchLine.down .r19200 .none false with rx := .hunting }
    link := { LinkPort.down with
      rx := .collecting
      sending := some
        { isReply := false
          line := [.word "!", .word "STARTED", .field "CAUSE" (.word "POWER-ON"), .field "MODE" (.word "NORMAL"),
                   .field "INTERRUPTED" (.num 0)]
          wire := startedWire } } }

end Sys2Proof.Machine
end

