-- ==== Sys2Proof/Machine/Text.lean ====
section
/-! DEFINITION. Characters, numbers and lines as they are written, and the CRC-16 of R152 and R173. -/

namespace Sys2Proof.Machine

/-! ## Characters (R150) -/

def chCR : Byte := 0x0D
def chLF : Byte := 0x0A
def chSpace : Byte := 0x20
def chQuote : Byte := 0x22
def chStar : Byte := 0x2A
def chEq : Byte := 0x3D

/-- R150: printable characters. -/
def isPrintable (c : Byte) : Bool := 0x20 ≤ c.toNat && c.toNat ≤ 0x7E
def isDigit (c : Byte) : Bool := 0x30 ≤ c.toNat && c.toNat ≤ 0x39
def isCapital (c : Byte) : Bool := 0x41 ≤ c.toNat && c.toNat ≤ 0x5A
/-- The digits and A to F, in upper case (R173). -/
def isUpperHex (c : Byte) : Bool := isDigit c || (0x41 ≤ c.toNat && c.toNat ≤ 0x46)
/-- A hex digit of an argument; either case (entry 12). -/
def isHex (c : Byte) : Bool := isUpperHex c || (0x61 ≤ c.toNat && c.toNat ≤ 0x66)
def hexVal (c : Byte) : Nat :=
  if isDigit c then c.toNat - 0x30 else if c.toNat < 0x61 then c.toNat - 0x37 else c.toNat - 0x57
/-- A character of a model (R147). -/
def isModelChar (c : Byte) : Bool := isDigit c || isCapital c

/-! ## Numbers -/

/-- The value of a run of decimal digits. -/
def decVal (t : Text) : Nat := t.foldl (fun a c => a * 10 + (c.toNat - 0x30)) 0
/-- The value of a run of hex digits, most significant first. -/
def hexNum (t : Text) : Nat := t.foldl (fun a c => a * 16 + hexVal c) 0
/-- A number whose bytes come most significant first (chapter 8). -/
def beNum (t : Text) : Nat := t.foldl (fun a c => a * 256 + c.toNat) 0
/-- A number in decimal, without leading zeros. -/
def dec (n : Nat) : Text := (Nat.toDigits 10 n).map fun c => BitVec.ofNat 8 c.toNat
/-- One hex digit, as the module writes it: in upper case, which the manual shows and does not state (entry 12). -/
def hexDigit (n : Nat) : Byte := if n < 10 then BitVec.ofNat 8 (0x30 + n) else BitVec.ofNat 8 (0x37 + n)
/-- A number as `w` upper-case hex digits, most significant first. -/
def hexW (w n : Nat) : Text := (List.range w).reverse.map fun i => hexDigit (n / 16 ^ i % 16)
/-- Values joined by commas, or NONE (R8, R36, R59, R83). -/
def commaList (l : List Text) : Text := if l.isEmpty then txt "NONE" else (l.intersperse (txt ",")).flatten
def ids (l : List Nat) : Value := .raw (commaList (l.map dec))

/-- R62: the 12 characters of a TKI. -/
def tkiText (t : Tki) : Text := hexW 6 t.pfx.toNat ++ hexW 6 t.number

/-! ## CRC-16 (R152, R173) -/

/-- One shift toward the most-significant end. -/
def crcShift (r : BitVec 16) : BitVec 16 := if r.getLsbD 15 then (r <<< 1) ^^^ 0x1021#16 else r <<< 1
/-- One covered byte: into the high eight bits, then eight shifts. -/
def crcByte (r : BitVec 16) (b : Byte) : BitVec 16 :=
  (List.range 8).foldl (fun r _ => crcShift r) (r ^^^ (b.setWidth 16 <<< 8))
def crc16 (init : BitVec 16) (t : Text) : BitVec 16 := t.foldl crcByte init

/-! ## Lines (R174, R177) -/

/-- R174: a double quote inside a quoted value is written as two. -/
def quoted (t : Text) : Text :=
  [chQuote] ++ t.flatMap (fun c => if c = chQuote then [chQuote, chQuote] else [c]) ++ [chQuote]

/-- R174: a value is quoted when it holds a space or a double quote, or is a label of no characters. -/
def Value.text : Value → Text
  | .num n => dec n
  | .hex w n => hexW w n
  | .word s => txt s
  | .label t => if t.isEmpty || t.contains chSpace || t.contains chQuote then quoted t else t
  | .raw t => t

def Item.text : Item → Text
  | .word s => txt s
  | .raw t => t
  | .field k v => txt k ++ [chEq] ++ v.text

/-- The characters of a line, items separated by one space. -/
def lineText (l : Line) : Text := ((l.map Item.text).intersperse [chSpace]).flatten

/-- R173: a Link Port line as it goes out: over its characters and one space, the CRC from FFFFh, then CR LF. -/
def lineWire (l : Line) : Text :=
  let covered := lineText l ++ [chSpace]
  covered ++ [chStar] ++ hexW 4 (crc16 0xFFFF#16 covered).toNat ++ [chCR, chLF]

/-- R31: a panel line as it goes out. The panel carries no check, and the port writes its values plainly. -/
def panelWire (l : Line) : Text :=
  ((l.map fun
      | .field k (.label t) => txt k ++ [chEq] ++ t
      | i => i.text).intersperse [chSpace]).flatten ++ [chCR, chLF]

/-! ## Words -/

def yesNo (b : Bool) : Value := .word (if b then "YES" else "NO")

def ErrCode.word : ErrCode → String
  | .badSyntax => "BAD-SYNTAX" | .unknown => "UNKNOWN" | .range => "RANGE" | .notAuthorised => "NOT-AUTHORISED"
  | .busy => "BUSY" | .queueFull => "QUEUE-FULL" | .laneOffline => "LANE-OFFLINE" | .noPlan => "NO-PLAN"
  | .inUse => "IN-USE" | .wrongState => "WRONG-STATE" | .tampered => "TAMPERED" | .mismatch => "MISMATCH"
  | .empty => "EMPTY" | .draftInvalid => "DRAFT-INVALID" | .hidden => "HIDDEN" | .failed => "FAILED"

def PanelErr.word : PanelErr → String
  | .long => "LONG" | .unknown => "UNKNOWN" | .badSyntax => "BAD-SYNTAX" | .range => "RANGE"
  | .notEnrolled => "NOT-ENROLLED" | .locked => "LOCKED" | .denied => "DENIED" | .already => "ALREADY"
  | .panelFull => "PANEL-FULL" | .notLoggedOn => "NOT-LOGGED-ON" | .wrongState => "WRONG-STATE"
  | .mismatch => "MISMATCH" | .notAuthorised => "NOT-AUTHORISED" | .noAssembly => "NO-ASSEMBLY" | .busy => "BUSY"
  | .pending => "PENDING" | .contributed => "CONTRIBUTED" | .length => "LENGTH" | .parity => "PARITY"
  | .notHeld => "NOT-HELD" | .checking => "CHECKING"

def HeldState.word : HeldState → String
  | .assembling => "ASSEMBLING" | .active => "ACTIVE" | .suspended => "SUSPENDED" | .faulted => "FAULTED"

/-- Table 1-4: the letter of a slot. -/
def slotLetter : Slot → Byte
  | none => 0x2D
  | some r => match r.state with
    | .assembling => 0x41 | .active => 0x4B | .suspended => 0x53 | .faulted => 0x46

def KeyClass.word : KeyClass → String
  | .root => "ROOT" | .transport => "TRANSPORT" | .direct => "DIRECT"
def Family.word : Family → String
  | .block64 => "BLOCK-64" | .block128 => "BLOCK-128"
def Group.word : Group → String
  | .a => "A" | .b => "B"
def AuthState.word : AuthState → String
  | .none => "NONE" | .single => "SINGLE" | .dual => "DUAL"
def Policy.word : Policy → String
  | .strict => "STRICT" | .adjust => "ADJUST"
def Budget.value : Budget → Value
  | .unlimited => .word "UNLIMITED"
  | .count n => .num n
def StepKind.word : StepKind → String
  | .await => "AWAIT" | .hail => "HAIL" | .identify => "IDENTIFY" | .route => "ROUTE" | .loadDirect => "LOAD-DIRECT"
  | .loadDerived => "LOAD-DERIVED" | .verify => "VERIFY" | .tag => "TAG" | .seal => "SEAL" | .pause => "PAUSE"
def Which.word : Which → String
  | .installed => "INSTALLED" | .retiring => "RETIRING" | .draft => "DRAFT"
def Owner.word : Owner → String
  | .operator => "OPERATOR" | .custodian => "CUSTODIAN"
def WindowKind.word : WindowKind → String
  | .route => "ROUTE" | .exclude => "EXCLUDE"
def DefaultRoute.value : DefaultRoute → Value
  | .reject => .word "REJECT"
  | .plan p => .num p
def LaneState.word : LaneState → String
  | .offline => "OFFLINE" | .idle => "IDLE" | .held => "HELD" | .running => "RUNNING"
/-- R181: the letter of a lane. -/
def LaneState.letter : LaneState → Byte
  | .offline => 0x4F | .idle => 0x49 | .held => 0x48 | .running => 0x52
def Parity.word : Parity → String
  | .none => "NONE" | .odd => "ODD" | .even => "EVEN"
def ReplyKind.word : ReplyKind → String
  | .ready => "READY" | .ident => "IDENT" | .accept => "ACCEPT" | .check => "CHECK" | .done => "DONE"
  | .refuse => "REFUSE" | .wait => "WAIT"
def Refuse.word : Refuse → String
  | .positionLocked => "POSITION-LOCKED" | .badAuthenticator => "BAD-AUTHENTICATOR" | .unsupported => "UNSUPPORTED"
  | .sealed => "SEALED" | .full => "FULL"
def DeliveryPhase.word : DeliveryPhase → String
  | .reserved => "RESERVED" | .delivering => "DELIVERING" | .accepted => "ACCEPTED" | .refused => "REFUSED"
  | .unanswered => "UNANSWERED"
def BindReason.word : BindReason → String
  | .noPlan => "NO-PLAN" | .slotState => "SLOT-STATE" | .cls => "CLASS" | .budget => "BUDGET"
  | .weakTransport => "WEAK-TRANSPORT" | .noIssueAccount => "NO-ISSUE-ACCOUNT" | .issueExhausted => "ISSUE-EXHAUSTED"
def AbortReason.word : AbortReason → String
  | .checkMismatch => "CHECK-MISMATCH" | .terminalRefused => "TERMINAL-REFUSED" | .timeout => "TIMEOUT"
  | .terminalStalled => "TERMINAL-STALLED" | .protocol => "PROTOCOL"
def StartCause.word : StartCause → String
  | .powerOn => "POWER-ON" | .restart => "RESTART"
def Mode.word : Mode → String
  | .normal => "NORMAL" | .failed => "FAILED"

/-- R96: the source of a decision, as an outcome's reason writes it. -/
def RouteSource.text : RouteSource → Text
  | .window w => txt "WINDOW-" ++ dec w
  | .default => txt "DEFAULT"

/-- An outcome with its reason in parentheses. -/
def withReason (o : String) (r : Text) : Text := txt o ++ txt "(" ++ r ++ txt ")"

/-- R129, Table 6-6: an outcome as RUN-END and READ-RECORD write it. -/
def Outcome.text : Outcome → Text
  | .complete => txt "COMPLETE"
  | .notStarted r => withReason "NOT-STARTED" (txt r.word)
  | .keyUnavailable r => withReason "KEY-UNAVAILABLE" (txt r.word)
  | .routeFailed routes => withReason "ROUTE-FAILED" (txt (if routes then "ROUTES" else "NO-PLAN"))
  | .rejectedRoute src => withReason "REJECTED-ROUTE" src.text
  | .terminalRefused r => withReason "TERMINAL-REFUSED" (txt r.word)
  | .checkMismatch p => withReason "CHECK-MISMATCH" (txt "POS-" ++ dec p)
  | .timeout => txt "TIMEOUT"
  | .terminalStalled => txt "TERMINAL-STALLED"
  | .protocol => txt "PROTOCOL"
  | .removed => txt "REMOVED"
  | .keyFault n => withReason "KEY-FAULT" (txt "SLOT-" ++ dec n)
  | .aborted none => txt "ABORTED"
  | .aborted (some r) => withReason "ABORTED" (txt r.word)
  | .tamper => txt "TAMPER"
  | .interrupted => txt "INTERRUPTED"

/-- R168: a note, the step index followed by T or C. -/
def noteText (n : Note) : Text :=
  dec n.step ++ txt (match n.kind with | .timeout => "T" | .checkMismatch => "C")

/-- R167: an identity in a record's summary. -/
def identText (i : Identity) : Text :=
  i.model ++ txt ":" ++ hexW 8 i.serial.toNat ++ txt ":" ++ dec i.firmware.toNat ++ txt ":" ++
    txt (if i.sealed then "S" else "N")

def cvValue (c : CheckValue) : Value := .hex 6 c.toNat

end Sys2Proof.Machine
end

