-- ==== Sys2Proof/Machine/LinkText.lean ====
section
/-! DEFINITION. The text of a request line (R172 to R175): check, tag, form, arguments, the catalogue of Table 10-4. -/

namespace Sys2Proof.Machine

/-! ## Values of arguments (R174) -/

/-- The arguments of a line: name and value, the quotes taken off. -/
abbrev Fields := List (Text × Text)

def Fields.get (f : Fields) (name : String) : Option Text := (f.find? fun p => p.1 = txt name).map Prod.snd
def Fields.has (f : Fields) (name : String) : Bool := (f.get name).isSome

/-- An argument in its form, by a reader of its value. -/
def argOf {α : Type} (read : Text → Option α) : Option Text → Arg α
  | none => .absent
  | some t => match read t with
    | some v => .val v
    | none => .malformed

/-- A number of 1 to `n` decimal digits (R174; 7 digits in R81 and R98). -/
def readNum (n : Nat) (t : Text) : Option Nat :=
  if 1 ≤ t.length && t.length ≤ n && t.all isDigit then some (decVal t) else none
/-- A number of exactly `n` hex digits. -/
def readHex (n w : Nat) (t : Text) : Option (BitVec w) :=
  if t.length = n && t.all isHex then some (BitVec.ofNat w (hexNum t)) else none
/-- One of the words of a list. -/
def readWord {α : Type} (words : List (String × α)) (t : Text) : Option α :=
  (words.find? fun p => txt p.1 = t).map Prod.snd
/-- A number or a word. -/
def readEither {α : Type} (word : String) (w : α) (num : Nat → α) (t : Text) : Option α :=
  if t = txt word then some w else (readNum 8 t).map num

def Fields.num (f : Fields) (name : String) : Arg Nat := argOf (readNum 8) (f.get name)
def Fields.num7 (f : Fields) (name : String) : Arg Nat := argOf (readNum 7) (f.get name)
def Fields.hex (f : Fields) (name : String) (n w : Nat) : Arg (BitVec w) := argOf (readHex n w) (f.get name)
def Fields.word {α : Type} (f : Fields) (name : String) (words : List (String × α)) : Arg α :=
  argOf (readWord words) (f.get name)
def Fields.text (f : Fields) (name : String) : Arg Text := argOf some (f.get name)
def Fields.budget (f : Fields) (name : String) : Arg Budget :=
  argOf (readEither "UNLIMITED" Budget.unlimited Budget.count) (f.get name)

def yesNoWords : List (String × Bool) := [("YES", true), ("NO", false)]
def classWords : List (String × KeyClass) := [("ROOT", .root), ("TRANSPORT", .transport), ("DIRECT", .direct)]
def familyWords : List (String × Family) := [("BLOCK-64", .block64), ("BLOCK-128", .block128)]
def groupWords : List (String × Group) := [("A", .a), ("B", .b)]
def policyWords : List (String × Policy) := [("STRICT", .strict), ("ADJUST", .adjust)]
def kindWords : List (String × StepKind) :=
  [("AWAIT", .await), ("HAIL", .hail), ("IDENTIFY", .identify), ("ROUTE", .route), ("LOAD-DIRECT", .loadDirect),
   ("LOAD-DERIVED", .loadDerived), ("VERIFY", .verify), ("TAG", .tag), ("SEAL", .seal), ("PAUSE", .pause)]
def whichWords : List (String × Which) := [("INSTALLED", .installed), ("RETIRING", .retiring), ("DRAFT", .draft)]
def windowKindWords : List (String × WindowKind) := [("ROUTE", .route), ("EXCLUDE", .exclude)]
def ownerWords : List (String × Owner) := [("OPERATOR", .operator), ("CUSTODIAN", .custodian)]
def testWords : List (String × TestKind) := [("ANY", .any), ("MASK", .mask), ("SPAN", .span)]
def parityWords : List (String × Parity) := [("NONE", .none), ("ODD", .odd), ("EVEN", .even)]

/-! ## The catalogue (Table 10-4) -/

/-- A command of the catalogue: its word, the argument names it takes, and the command that a line of it is. -/
structure Command where
  word  : String
  takes : List String
  make  : Text → Fields → Instr

def fieldsLevel (f : Fields) : Level := if f.has "LEVEL" then .custodian else .operator

/-- The operands of a step (R80). -/
def fieldsStep (f : Fields) : StepArgs :=
  { slot := f.num7 "SLOT", tslot := f.num7 "TSLOT", pos := f.num7 "POS", text := f.text "TEXT"
    duration := f.num7 "DURATION", limit := f.num7 "LIMIT", timeout := f.num7 "TIMEOUT"
    cont := f.word "CONT" yesNoWords }

def stepNames : List String := ["SLOT", "TSLOT", "POS", "TEXT", "DURATION", "LIMIT", "TIMEOUT", "CONT"]
/-- A line gives one of the arguments named. -/
def Fields.hasAny (f : Fields) (names : List String) : Bool := names.any f.has

/-- R81: PLAN of EDIT-PLAN. Check 1 ranges the number before check 2 asks for 1 to 7 digits; so one of 8 digits, as R174
lets a number have, is RANGE where it is past 15 and not of its form where it is not (entry 30). -/
def readPlanNo (t : Text) : Option Nat :=
  (readNum 8 t).bind fun p => if p < 16 then readNum 7 t else some p
def Fields.planNo (f : Fields) : Arg Nat := argOf readPlanNo (f.get "PLAN")

/-- R80, R81: EDIT-PLAN by its ACTION. A missing or unknown ACTION is judged like an argument that LABEL does not take:
RANGE for the plan first, then BAD-SYNTAX. -/
def makeEdit (tag : Text) (f : Fields) : Instr :=
  match (f.get "ACTION").map (readWord [("SET", 0), ("INSERT", 1), ("DELETE", 2), ("LABEL", 3)]) with
  | some (some 0) =>
    .editPlanSet tag f.planNo (f.num7 "STEP") (f.word "KIND" kindWords) (fieldsStep f) (f.has "LABEL")
  | some (some 1) =>
    .editPlanInsert tag f.planNo (f.num7 "STEP") (f.word "KIND" kindWords) (fieldsStep f) (f.has "LABEL")
  | some (some 2) => .editPlanDelete tag f.planNo (f.num7 "STEP") (f.hasAny ("KIND" :: "LABEL" :: stepNames))
  | some (some 3) => .editPlanLabel tag f.planNo (f.text "LABEL") (f.hasAny ("STEP" :: "KIND" :: stepNames))
  | _ => .editPlanLabel tag f.planNo .absent true

/-- R83: the two forms of READ-PLAN. -/
def makeReadPlan (tag : Text) (f : Fields) : Instr :=
  if f.hasAny ["WHICH", "STEP"] then .readPlanStep tag (f.num "PLAN") (f.word "WHICH" whichWords) (f.num "STEP")
  else .readPlan tag (f.num "PLAN")

/-- R101, R102: the two forms of READ-WINDOW. -/
def makeReadWindow (tag : Text) (f : Fields) : Instr :=
  if f.has "WINDOW" then .readWindow tag (f.num "WINDOW") (fieldsLevel f) else .readWindowSummary tag (fieldsLevel f)

def windowNames : List String :=
  ["WINDOW", "KIND", "MODEL", "TEST", "BASE", "MASK", "LOW", "HIGH", "MINFW", "PLAN", "ENABLED", "OWNER", "LEVEL"]

/-- R98, R99: the two forms of SET-WINDOW. -/
def makeSetWindow (tag : Text) (f : Fields) : Instr :=
  if f.has "KIND" then
    .setWindow tag
      { window := f.num7 "WINDOW", kind := f.word "KIND" windowKindWords, model := f.text "MODEL"
        test := f.word "TEST" testWords, base := f.hex "BASE" 8 32, mask := f.hex "MASK" 8 32
        low := f.hex "LOW" 8 32, high := f.hex "HIGH" 8 32, minfw := f.num7 "MINFW", plan := f.num7 "PLAN"
        enabled := f.word "ENABLED" yesNoWords, owner := f.word "OWNER" ownerWords } (fieldsLevel f)
  else
    .setWindowEnabled tag (f.num "WINDOW") (f.word "ENABLED" yesNoWords)
      (f.hasAny ["MODEL", "TEST", "BASE", "MASK", "LOW", "HIGH", "MINFW", "PLAN", "OWNER"]) (fieldsLevel f)

/-- R167, R168: the forms of READ-RECORD. -/
def makeReadRecord (tag : Text) (f : Fields) : Instr :=
  if f.isEmpty then .readRecord tag
  else match (f.get "PART").map (readWord [("DELIVERY", 0), ("VOIDED", 1), ("NOTES", 2)]) with
    | none => .readRecordEntry tag (f.num "LANE") (f.num "ORDINAL") (f.has "INDEX")
    | some (some 0) => .readRecordDelivery tag (f.num "LANE") (f.num "ORDINAL") (f.num "INDEX")
    | some (some 1) => .readRecordVoided tag (f.num "LANE") (f.num "ORDINAL") (f.has "INDEX")
    | some (some 2) => .readRecordNotes tag (f.num "LANE") (f.num "ORDINAL") (f.has "INDEX")
    | some _ => .readRecordEntry tag (f.num "LANE") (f.num "ORDINAL") true

/-- Table 10-4, the port's own requests and those of the Key Store, the custodians and the accounts. -/
def catalogueKeys : List Command :=
  [ ⟨"STATUS", [], fun t _ => .status t⟩,
    ⟨"RESTART", [], fun t _ => .restart t⟩,
    ⟨"LIST-SLOTS", [], fun t _ => .listSlots t⟩,
    ⟨"READ-SLOT", ["SLOT"], fun t f => .readSlot t (f.num "SLOT")⟩,
    ⟨"SUSPEND-SLOT", ["SLOT"], fun t f => .suspendSlot t (f.num "SLOT")⟩,
    ⟨"RESUME-SLOT", ["SLOT"], fun t f => .resumeSlot t (f.num "SLOT")⟩,
    ⟨"ERASE-SLOT", ["SLOT"], fun t f => .eraseSlot t (f.num "SLOT")⟩,
    ⟨"SET-BUDGET", ["SLOT", "BUDGET"], fun t f => .setBudget t (f.num "SLOT") (f.budget "BUDGET")⟩,
    ⟨"SET-SCRUB", ["INTERVAL"], fun t f => .setScrub t (f.num "INTERVAL")⟩,
    ⟨"ENROL-CUSTODIAN", ["ID", "GROUP", "LABEL"], fun t f =>
      .enrolCustodian t (f.num "ID") (f.word "GROUP" groupWords) (f.text "LABEL")⟩,
    ⟨"REMOVE-CUSTODIAN", ["ID"], fun t f => .removeCustodian t (f.num "ID")⟩,
    ⟨"UNLOCK-CUSTODIAN", ["ID"], fun t f => .unlockCustodian t (f.num "ID")⟩,
    ⟨"SET-DUAL-WINDOW", ["SECONDS"], fun t f => .setDualWindow t (f.num "SECONDS")⟩,
    ⟨"SET-PARITY-POLICY", ["POLICY"], fun t f => .setParityPolicy t (f.word "POLICY" policyWords)⟩,
    ⟨"ASSEMBLE-BEGIN", ["SLOT", "CLASS", "ALG", "LEN", "PARTS", "CV", "LABEL", "KVER", "BUDGET"], fun t f =>
      .assembleBegin t
        { slot := f.num "SLOT", cls := f.word "CLASS" classWords, family := f.word "ALG" familyWords
          len := f.num "LEN", parts := f.num "PARTS", cv := f.hex "CV" 6 24, label := f.text "LABEL"
          kver := f.num "KVER", budget := f.budget "BUDGET" }⟩,
    ⟨"ASSEMBLE-CANCEL", [], fun t _ => .assembleCancel t⟩,
    ⟨"OPEN-ISSUE", ["SLOT", "PREFIX", "FIRST", "LAST", "STEP", "THRESHOLD"], fun t f =>
      .openIssue t (f.num "SLOT") (f.hex "PREFIX" 6 24) (f.num "FIRST") (f.num "LAST") (f.num "STEP")
        (f.num "THRESHOLD")⟩,
    ⟨"EXTEND-ISSUE", ["SLOT", "LAST"], fun t f => .extendIssue t (f.num "SLOT") (f.num "LAST")⟩,
    ⟨"SET-ISSUE-WARNING", ["SLOT", "THRESHOLD"], fun t f =>
      .setIssueWarning t (f.num "SLOT") (f.num "THRESHOLD")⟩,
    ⟨"READ-ISSUE", ["SLOT"], fun t f => .readIssue t (f.num "SLOT")⟩,
    ⟨"ACKNOWLEDGE-TAMPER", [], fun t _ => .acknowledgeTamper t⟩ ]

/-- Table 10-4, the requests of the plans, the windows, the lanes and the records. -/
def catalogueRuns : List Command :=
  [ ⟨"READ-PLAN", ["PLAN", "WHICH", "STEP"], makeReadPlan⟩,
    ⟨"EDIT-PLAN", ["PLAN", "ACTION", "STEP", "KIND", "LABEL"] ++ stepNames, makeEdit⟩,
    ⟨"DISCARD-DRAFT", ["PLAN"], fun t f => .discardDraft t (f.num "PLAN")⟩,
    ⟨"INSTALL-PLAN", ["PLAN"], fun t f => .installPlan t (f.num "PLAN")⟩,
    ⟨"REMOVE-PLAN", ["PLAN"], fun t f => .removePlan t (f.num "PLAN")⟩,
    ⟨"READ-WINDOW", ["WINDOW", "LEVEL"], makeReadWindow⟩,
    ⟨"SET-WINDOW", windowNames, makeSetWindow⟩,
    ⟨"CLEAR-WINDOW", ["WINDOW", "LEVEL"], fun t f => .clearWindow t (f.num "WINDOW") (fieldsLevel f)⟩,
    ⟨"SET-DEFAULT-ROUTE", ["ROUTE"], fun t f =>
      .setDefaultRoute t (argOf (readEither "REJECT" DefaultRoute.reject DefaultRoute.plan) (f.get "ROUTE"))⟩,
    ⟨"QUEUE-RUN", ["LANE", "PLAN", "REPEAT", "TAG"], fun t f =>
      .queueRun t (f.num "LANE") (f.num "PLAN") (f.num "REPEAT") (f.num "TAG")⟩,
    ⟨"ABORT-LANE", ["LANE", "FLUSH"], fun t f => .abortLane t (f.num "LANE") (f.word "FLUSH" [("YES", ())])⟩,
    ⟨"SET-LANE", ["LANE", "ONLINE", "RATE", "PARITY"], fun t f =>
      .setLane t (f.num "LANE") (f.word "ONLINE" yesNoWords) (f.num "RATE") (f.word "PARITY" parityWords)⟩,
    ⟨"READ-LANE", ["LANE"], fun t f => .readLane t (f.num "LANE")⟩,
    ⟨"CLEAR-COUNTERS", ["LANE"], fun t f => .clearCounters t (f.num "LANE")⟩,
    ⟨"READ-RECORD", ["LANE", "ORDINAL", "PART", "INDEX"], makeReadRecord⟩,
    ⟨"DISCARD-RECORD", ["LANE", "ORDINAL"], fun t f => .discardRecord t (f.num "LANE") (f.num "ORDINAL")⟩ ]

def catalogue : List Command := catalogueKeys ++ catalogueRuns

/-! ## The form of the text (R174) -/

/-- Two spaces stand together. -/
def doubleSpace : Text → Bool
  | c :: d :: rest => (c = chSpace && d = chSpace) || doubleSpace (d :: rest)
  | _ => false

/-- The rest of a quoted value, after its opening quote: the value, and what follows the closing quote. -/
def readQuoted (acc : Text) : Text → Option (Text × Text)
  | [] => none
  | c :: rest =>
    if c = chQuote then
      match rest with
      | [] => some (acc, [])
      | d :: rest' => if d = chQuote then readQuoted (acc ++ [chQuote]) rest' else some (acc, d :: rest')
    else readQuoted (acc ++ [c]) rest

def notSpace (c : Byte) : Bool := c ≠ chSpace

/-- R174: a value, plain or quoted, and what follows it. Either form is taken for a value of any kind, so the quotes are off
before a number, a hex run or a word is read from it (entry 34). -/
def readValue (t : Text) : Option (Text × Text) :=
  if t.head? = some chQuote then readQuoted [] t.tail
  else
    let v := t.takeWhile notSpace
    if v.contains chQuote then none else some (v, t.dropWhile notSpace)

/-- One argument, after its separating space: its name, its value, and what follows. -/
def readArg (t : Text) : Option ((Text × Text) × Text) :=
  let name := t.takeWhile fun c => c ≠ chEq && c ≠ chSpace
  match t.drop name.length with
  | c :: rest =>
    if c = chEq && !name.isEmpty then (readValue rest).map fun p => ((name, p.1), p.2) else none
  | [] => none

/-- The arguments, each after one space. Each turn takes characters, so the length of the text is enough. -/
def readArgs : Nat → Text → Option Fields
  | _, [] => some []
  | 0, _ => none
  | fuel + 1, c :: rest =>
    if c ≠ chSpace then none
    else match readArg rest with
      | none => none
      | some (a, rest') => (readArgs fuel rest').map fun l => a :: l

/-- Table 10-1, step 6, of the names: each one the command takes, none given twice, LEVEL with its one value. -/
def namesFit (takes : List String) (f : Fields) : Bool :=
  f.all (fun p => takes.any fun n => txt n = p.1) && decide (f.map Prod.fst).Nodup &&
    (match f.get "LEVEL" with | some v => v = txt "CUSTODIAN" | none => true)

/-- R174, step 6: the arguments of a text whose form is right. -/
def readForm (text args : Text) (takes : List String) : Option Fields :=
  if !text.all isPrintable || doubleSpace text then none
  else (readArgs args.length args).filter (namesFit takes)

/-! ## The line (R172, R173, R175) -/

/-- R174: the tag's digits, if the text begins with a tag and a space. -/
def readTag (text : Text) : Option Text :=
  let d := text.takeWhile isDigit
  if 1 ≤ d.length && d.length ≤ 4 && (text.drop d.length).head? = some chSpace then some d else none

/-- Table 10-1, steps 3, 5 and 6. -/
def readRequest (text : Text) : LinkLine :=
  match readTag text with
  | none => .refused .noTag
  | some tag =>
    let rest := text.drop (tag.length + 1)
    let word := rest.takeWhile notSpace
    match catalogue.find? fun c => txt c.word = word with
    | none => .refused (.unknown tag)
    | some c =>
      match readForm text (rest.drop word.length) c.takes with
      | none => .refused (.badForm tag (word = txt "STATUS"))
      | some f => .request (c.make tag f)

/-- R173: the check suffix agrees with the line. -/
def checkAgrees (line : Text) : Bool :=
  let n := line.length
  let digits := line.drop (n - 4)
  7 ≤ n && (line.drop (n - 6)).take 2 = [chSpace, chStar] && digits.all isUpperHex &&
    (crc16 0xFFFF#16 (line.take (n - 5))).toNat = hexNum digits

/-- R172, R173: the characters before an LF in COLLECTING. -/
def readLine (chars : Text) : LinkLine :=
  if chars.getLast? ≠ some chCR then .refused .badCheck
  else
    let line := chars.dropLast
    if line.isEmpty then .refused .empty
    else if !checkAgrees line then .refused .badCheck
    else readRequest (line.take (line.length - 6))

end Sys2Proof.Machine
end

