-- ==== Sys2Proof/Machine/Flags.lean ====
section
/-! DEFINITION. The conditions and counts that the manual derives from stored state. -/

namespace Sys2Proof.Machine

/-! ## Keys (chapter 1) -/

def AlgPair.family : AlgPair → Family
  | .b64k16 | .b64k24 => .block64
  | _ => .block128
def AlgPair.keyLen : AlgPair → Nat
  | .b64k16 | .b128k16 => 16
  | .b64k24 | .b128k24 => 24
  | .b128k32 => 32
/-- R3, Table 1-2: transport strength. -/
def AlgPair.rank : AlgPair → Nat
  | .b64k16 => 1 | .b64k24 => 2 | .b128k16 => 3 | .b128k24 => 4 | .b128k32 => 5
/-- R2: the block of a key, in bytes. -/
def Family.block : Family → Nat
  | .block64 => 8 | .block128 => 16
/-- R2: the five pairs; any other family and length is no pair. -/
def algPair? : Family → Nat → Option AlgPair
  | .block64, 16 => some .b64k16
  | .block64, 24 => some .b64k24
  | .block128, 16 => some .b128k16
  | .block128, 24 => some .b128k24
  | .block128, 32 => some .b128k32
  | _, _ => none

/-- R9: the available count is at least 1. -/
def Allowance.available (a : Allowance) : Bool :=
  match a.budget with
  | .unlimited => true
  | .count n => a.reserved < n

/-- R12: a delivery start lowers budget and reserved count together; UNLIMITED stays. -/
def Budget.spend : Budget → Budget
  | .unlimited => .unlimited
  | .count n => .count (n - 1)

def SlotRec.isState (r : SlotRec) (st : HeldState) : Bool := r.state = st
def Slot.isActive : Slot → Bool
  | some r => r.state = .active
  | none => false
def Slot.isFaulted : Slot → Bool
  | some r => r.state = .faulted
  | none => false

/-! ## Bytes of a key (chapter 2) -/

/-- The number of 1 bits of a byte. -/
def ones (b : Byte) : Nat := ((List.range 8).filter fun i => b.getLsbD i).length
/-- R43, R47: an odd number of 1 bits. -/
def isOdd (b : Byte) : Bool := ones b % 2 = 1
/-- R47: a byte of even count has its least-significant bit inverted. -/
def oddByte (b : Byte) : Byte := if isOdd b then b else b ^^^ 1#8
/-- R47, R17: the parity step of a family; BLOCK-128 has none. -/
def parityStep (f : Family) (key : Text) : Text :=
  match f with
  | .block64 => key.map oddByte
  | .block128 => key
/-- R41, R46: exclusive-or, byte by byte. -/
def xorText (a b : Text) : Text := List.zipWith (· ^^^ ·) a b

/-! ## Sessions (chapter 2) -/

/-- R37: the authorisation state of a set of sessions, whose groups are given. -/
def authOf : List (Option Group) → AuthState
  | [] => .none
  | [some x, some y] => if x = y then .single else .dual
  | _ => .single

/-! ## Issue accounts (chapter 3) -/

/-- R54. -/
def Account.drawn (a : Account) : Nat := (a.next - a.first) / a.step
/-- R54. -/
def Account.remaining (a : Account) : Nat :=
  a.returned.length + (if a.next ≤ a.last then (a.last - a.next) / a.step + 1 else 0)
/-- R54. -/
def Account.reserved (a : Account) : Nat := a.drawn - a.returned.length - a.consumed - a.voided
/-- R54: the account is EXHAUSTED when remaining is 0. -/
def Account.exhausted (a : Account) : Bool := a.returned.isEmpty && a.last < a.next

/-- Ascending insertion without duplicates, for returned lists and lane sets. -/
def insertAsc (n : Nat) : List Nat → List Nat
  | [] => [n]
  | m :: rest => if n < m then n :: m :: rest else if n = m then m :: rest else m :: insertAsc n rest

/-! ## Steps (chapter 4) -/

/-- Table 4-3: the default timeout of a frame step, in ms. -/
def StepKind.defaultTimeout : StepKind → Nat
  | .hail | .identify | .tag => 2000
  | .loadDirect | .loadDerived => 5000
  | .verify | .seal => 3000
  | .await | .route | .pause => 0
def StepKind.isLoad : StepKind → Bool
  | .loadDirect | .loadDerived => true
  | _ => false
/-- R116: the kinds that send a frame. -/
def StepKind.isFrame : StepKind → Bool
  | .await | .route | .pause => false
  | _ => true
/-- R72: the timeout a frame step uses. -/
def Step.timeoutMs (st : Step) : Nat := st.timeout.getD st.kind.defaultTimeout
/-- R72: the continue-on-failure flag, NO when absent; only VERIFY and TAG carry it (R120). -/
def Step.continues (st : Step) : Bool := st.cont = some true && (st.kind = .verify || st.kind = .tag)
/-- The LOAD steps of a version with their indexes, in step order (R11). -/
def loadsOf (steps : List Step) : List (Nat × Step) :=
  (steps.zipIdx.map fun p => (p.2, p.1)).filter fun p => p.2.kind.isLoad
/-- R87: the version holds a ROUTE step. -/
def routes (steps : List Step) : Bool := steps.any fun st => st.kind = .route

/-! ## Runs (chapter 6) -/

/-- Table 6-6, last column. -/
def Outcome.repeats : Outcome → Bool
  | .complete | .rejectedRoute _ | .terminalRefused _ | .checkMismatch _ | .timeout | .terminalStalled | .protocol
  | .removed => true
  | _ => false
/-- R163: the outcomes whose record carries a failing step index. -/
def Outcome.hasFailStep : Outcome → Bool
  | .complete | .interrupted | .tamper | .notStarted .noPlan => false
  | _ => true
/-- R124, Table 6-5: the outcome of a delivery that ended with the abort-pending flag set. -/
def Outcome.underAbort : Outcome → Outcome
  | .complete => .aborted none
  | .checkMismatch _ => .aborted (some .checkMismatch)
  | .terminalRefused _ => .aborted (some .terminalRefused)
  | .timeout => .aborted (some .timeout)
  | .terminalStalled => .aborted (some .terminalStalled)
  | .protocol => .aborted (some .protocol)
  | o => o

/-! ## Bench lines (chapter 7) -/

/-- Table 7-2: the rates in bit/s. -/
def Rate.bps : Rate → Nat
  | .r9600 => 9600 | .r19200 => 19200 | .r38400 => 38400 | .r57600 => 57600 | .r115200 => 115200
/-- R135: the rate of a RATE argument, one of the five. -/
def rate? (n : Nat) : Option Rate :=
  if n = 9600 then some .r9600 else if n = 19200 then some .r19200 else if n = 38400 then some .r38400
  else if n = 57600 then some .r57600 else if n = 115200 then some .r115200 else none
/-- R135, Table 7-2: the divisor of a rate, from the 3,686,400 Hz reference divided by 16. -/
def Rate.divisor (r : Rate) : Nat := 3686400 / 16 / r.bps

/-- R136: the parity bit of a byte; none is sent or expected under NONE. -/
def parityBit : Parity → Byte → Option Bool
  | .none, _ => none
  | .odd, b => some (!isOdd b)
  | .even, b => some (isOdd b)
/-- R136: the bits of a character on the line: start bit, data least-significant first, parity bit, stop bit. -/
def charBits (p : Parity) (b : Byte) : List Bool :=
  [false] ++ (List.range 8).map b.getLsbD ++ (parityBit p b).toList ++ [true]
/-- R136: a received character has a character error. -/
def charError (p : Parity) (data : Byte) (parityIn stopIn : Bool) : Bool :=
  !stopIn || (match parityBit p data with | none => false | some b => b != parityIn)

/-! ## Records (chapter 9) -/

def openCount (l : List Record) : Nat := (l.filter fun r => !r.closed).length
def closedCount (l : List Record) : Nat := (l.filter fun r => r.closed).length
/-- R161: the free places. -/
def freePlaces (l : List Record) : Nat := Config.recordPlaces - l.length
/-- R161: the oldest CLOSED entry. -/
def oldestClosed (l : List Record) : Option Record := l.find? fun r => r.closed

end Sys2Proof.Machine
end

