-- ==== Sys2Proof/Machine/Frame.lean ====
section
/-! DEFINITION. The byte layouts that a terminal sees (chapter 8): bench frames, reply bodies, the key envelope. -/

namespace Sys2Proof.Machine

/-- R151: the start character. -/
def startChar : Byte := 0xB7

/-- Table 8-2. -/
def RequestKind.code : RequestKind → Byte
  | .hail => 0x11 | .askIdent => 0x12 | .key => 0x13 | .askCheck => 0x14 | .tag => 0x15 | .seal => 0x16

/-- Table 8-2. -/
def ReplyKind.code : ReplyKind → Byte
  | .ready => 0x21 | .ident => 0x22 | .accept => 0x23 | .check => 0x24 | .done => 0x25 | .refuse => 0x2E | .wait => 0x2F

/-- R153: the reply kind of a code; a request code or any other byte is none. -/
def replyKind? (b : Byte) : Option ReplyKind :=
  [ReplyKind.ready, .ident, .accept, .check, .done, .refuse, .wait].find? fun k => k.code = b

/-- R144, Table 7-3: the reply that each request expects. -/
def RequestKind.expects : RequestKind → ReplyKind
  | .hail => .ready | .askIdent => .ident | .key => .accept | .askCheck => .check | .tag => .done | .seal => .done

/-- Table 7-3: the request that a frame step sends. -/
def StepKind.request : StepKind → RequestKind
  | .identify => .askIdent | .loadDirect | .loadDerived => .key | .verify => .askCheck | .tag => .tag | .seal => .seal
  | .hail | .await | .route | .pause => .hail

/-- R152: the frame check, over kind, body length and body, from 0000h. -/
def frameCheck (kind : Byte) (body : Text) : BitVec 16 :=
  crc16 0#16 (kind :: BitVec.ofNat 8 body.length :: body)

/-- R151, Table 8-1: the characters of a frame. -/
def frameChars (kind : Byte) (body : Text) : Text :=
  let c := frameCheck kind body
  [startChar, kind, BitVec.ofNat 8 body.length] ++ body ++ [(c >>> 8).setWidth 8, c.setWidth 8]

/-- Table 8-5. -/
def Refuse.code : Refuse → Byte
  | .positionLocked => 0x01 | .badAuthenticator => 0x02 | .unsupported => 0x03 | .sealed => 0x04 | .full => 0x05
def refuse? (b : Byte) : Option Refuse :=
  [Refuse.positionLocked, .badAuthenticator, .unsupported, .sealed, .full].find? fun r => r.code = b

/-- A checked frame as the line hands it over (R142, R146, R153). -/
inductive BenchReply where
  | ready
  | ident (i : Identity)
  | accept (pos : Nat) (cv : CheckValue)
  | check (pos : Nat) (cv : CheckValue)
  | done
  | refuse (r : Refuse)
  | wait
  | malformed (k : ReplyKind)
  | other
  deriving DecidableEq, Repr

/-- R156, Table 8-6: the identity record, valid or not. -/
def decodeIdentity (body : Text) : Option Identity :=
  let model := body.take 4
  let flag := body.getD 10 0xFF
  if body.length = 11 && model.all isModelChar && (flag = 0 || flag = 1) then
    some { model := model
           serial := BitVec.ofNat 32 (beNum ((body.drop 4).take 4))
           firmware := BitVec.ofNat 16 (beNum ((body.drop 8).take 2))
           sealed := flag = 1 }
  else none

/-- R155, Table 8-4: a position and a check value. -/
def decodePosCv (body : Text) : Option (Nat × CheckValue) :=
  match body with
  | [p, a, b, c] => if p.toNat ≤ 9 then some (p.toNat, BitVec.ofNat 24 (beNum [a, b, c])) else none
  | _ => none

/-- R153, R155: a checked frame classed by its kind code and decoded by its body. -/
def decodeReply (kind : Byte) (body : Text) : BenchReply :=
  match replyKind? kind with
  | none => .other
  | some .ready => if body.isEmpty then .ready else .malformed .ready
  | some .done => if body.isEmpty then .done else .malformed .done
  | some .wait => if body.isEmpty then .wait else .malformed .wait
  | some .accept => match decodePosCv body with
    | some (p, v) => .accept p v
    | none => .malformed .accept
  | some .check => match decodePosCv body with
    | some (p, v) => .check p v
    | none => .malformed .check
  | some .refuse => match body with
    | [b] => match refuse? b with
      | some r => .refuse r
      | none => .malformed .refuse
    | _ => .malformed .refuse
  | some .ident => match decodeIdentity body with
    | some i => .ident i
    | none => .malformed .ident

/-- R154, Table 8-3: the body of a step's request, KEY apart. -/
def requestBody (st : Step) : Text :=
  match st.kind with
  | .verify => [BitVec.ofNat 8 (st.pos.getD 0)]
  | .tag => st.text.getD []
  | _ => []

/-- Table 8-7: the algorithm code. -/
def Family.code : Family → Byte
  | .block64 => 0x01 | .block128 => 0x02

/-- R158: the TKI block. -/
def tkiBlock (t : Tki) : Text := [0x54, 0x0C] ++ tkiText t
/-- R158: the LABEL block; a label of no characters places none. -/
def labelBlock (label : Text) : Text :=
  if label.isEmpty then [] else [0x4C, BitVec.ofNat 8 label.length] ++ label

/-- R157, R159, Table 8-8: the authenticated header of a LOAD step, from its key slot, position and TKI. -/
def envelopeHeader (k : SlotRec) (pos : Nat) (tki : Option Tki) : Text :=
  let blocks := (if tki.isSome then 1 else 0) + (if k.label.isEmpty then 0 else 1)
  [0x01, if tki.isSome then 0x44 else 0x4B, k.alg.family.code, BitVec.ofNat 8 k.alg.keyLen, BitVec.ofNat 8 k.kver,
    BitVec.ofNat 8 pos, 0x4E, BitVec.ofNat 8 blocks] ++
    (tki.map tkiBlock).getD [] ++ labelBlock k.label

end Sys2Proof.Machine
end

