-- ==== Sys2Proof/Machine/Cipher.lean ====
section
/-! DEFINITION. The cipher (R17, Table 1-7). The manual gives each operation by its inputs and its output, and leaves the
algorithm outside itself (00_scope.md). So the cipher is a free value: the structure `Cipher` holds what the manual says of
one, and `Config.cipher` is an opaque member of it, of which nothing else is known (entry 6 of the log). -/

namespace Sys2Proof.Machine

/-- R62, Table 1-7: 12 upper-case hex characters. -/
def isTki (t : Text) : Bool := t.length = 12 && t.all isUpperHex
/-- R17, Table 8-9: a length rounded up to whole blocks of the transport key. -/
def wrappedLen (len : Nat) (transport : AlgPair) : Nat :=
  (len + transport.family.block - 1) / transport.family.block * transport.family.block

/-- R17: the four operations as functions of their inputs, WRAP in its two outputs, with what the manual says of them. That
WRAP's output depends on every byte of its header is read so: another byte at one place gives another output (DEDUCED). -/
structure Cipher where
  /-- CHECK, of a key. -/
  check : AlgPair → Text → CheckValue
  /-- DERIVE, of a root key and a TKI: the terminal key. -/
  derive : AlgPair → Text → Text → Text
  /-- WRAP, of a transport key, a header and a key: the wrapped key data. -/
  wrap : AlgPair → Text → Text → Text → Text
  /-- WRAP, of a transport key, a header and the wrapped key data: the authenticator. -/
  auth : AlgPair → Text → Text → Text → Text
  /-- TAG, of a slot's class, algorithm pair, key, key version and label. -/
  tag : KeyClass → AlgPair → Text → Nat → Text → Text
  derive_length : ∀ alg root tki, (derive alg root tki).length = alg.keyLen
  derive_odd : ∀ alg root tki, alg.family = .block64 → ∀ b ∈ derive alg root tki, isOdd b = true
  derive_differs : ∀ alg root tki tki', isTki tki = true → isTki tki' = true → tki ≠ tki' →
    derive alg root tki ≠ derive alg root tki'
  wrap_length : ∀ alg transport header key, (wrap alg transport header key).length = wrappedLen key.length alg
  auth_length : ∀ alg transport header data, (auth alg transport header data).length = 8
  header_matters : ∀ alg transport header key i b, i < header.length → header[i]? ≠ some b →
    wrap alg transport (header.set i b) key ++
        auth alg transport (header.set i b) (wrap alg transport (header.set i b) key) ≠
      wrap alg transport header key ++ auth alg transport header (wrap alg transport header key)

/-! A cipher exists that meets all of this. Lean asks it of the type of an opaque constant; the constant need not be it. -/

/-- The TKI's characters, each with a parity bit below it. -/
def plainKey (alg : AlgPair) (tki : Text) : Text := (List.range alg.keyLen).map fun i => oddByte (tki.getD i 0 <<< 1)
/-- The sum of the bytes. -/
def byteSum (t : Text) : Byte := t.foldr (· + ·) 0

theorem isOdd_oddByte : ∀ b : Byte, isOdd (oddByte b) = true := by decide +kernel

theorem upperHex_below : ∀ c : Byte, isUpperHex c = true → oddByte (c <<< 1) >>> 1 = c := by decide +kernel

theorem byteSum_set (t : Text) (i : Nat) (b : Byte) (hi : i < t.length) : byteSum (t.set i b) + t[i] = byteSum t + b := by
  induction t generalizing i with
  | nil => simp at hi
  | cons x xs ih =>
    cases i with
    | zero => simp only [byteSum, List.set_cons_zero, List.getElem_cons_zero, List.foldr_cons]; ac_rfl
    | succ i =>
      have := ih i (by simpa using hi)
      simp only [List.set_cons_succ, List.getElem_cons_succ, byteSum, List.foldr_cons] at *
      rw [BitVec.add_assoc, this, BitVec.add_assoc]

theorem plainKey_differs (alg : AlgPair) (t u : Text) (ht : isTki t = true) (hu : isTki u = true) (hne : t ≠ u) :
    plainKey alg t ≠ plainKey alg u := fun h => by
  simp only [isTki, Bool.and_eq_true, decide_eq_true_eq, List.all_eq_true] at ht hu
  refine hne (List.ext_getElem (ht.1.trans hu.1.symm) fun i h1 h2 => ?_)
  have hk : i < alg.keyLen := by
    have : 16 ≤ alg.keyLen := by cases alg <;> decide
    omega
  have h' := congrArg (fun l => l[i]?) h
  simp only [plainKey, List.getElem?_map, List.getElem?_range hk, Option.map_some, List.getD_eq_getElem?_getD,
    List.getElem?_eq_getElem h1, List.getElem?_eq_getElem h2, Option.getD_some, Option.some.injEq] at h'
  rw [← upperHex_below _ (ht.2 _ (List.getElem_mem h1)), ← upperHex_below _ (hu.2 _ (List.getElem_mem h2)), h']

/-- That cipher. -/
def Cipher.plain : Cipher where
  check _ _ := 0
  derive alg _ tki := plainKey alg tki
  wrap alg _ _ key := List.replicate (wrappedLen key.length alg) 0
  auth _ _ header _ := List.replicate 7 0 ++ [byteSum header]
  tag _ _ _ _ _ := []
  derive_length _ _ _ := by simp [plainKey]
  derive_odd _ _ _ _ b hb := by
    obtain ⟨i, -, rfl⟩ := List.mem_map.mp hb
    exact isOdd_oddByte _
  derive_differs alg _ := plainKey_differs alg
  wrap_length _ _ _ _ := List.length_replicate
  auth_length _ _ _ _ := rfl
  header_matters _ _ header _ i b hi hb h := by
    have hs : byteSum (header.set i b) = byteSum header := by simpa using h
    have := byteSum_set header i b hi
    rw [hs] at this
    exact hb (by rw [List.getElem?_eq_getElem hi, (BitVec.add_right_inj _).mp this])

end Sys2Proof.Machine

namespace Sys2Proof.Config

/-- Some member of a type that has one; nothing in Lean knows which. -/
opaque anyOf (α : Type) [Inhabited α] : α

/-- R17: the module's cipher. -/
def cipher : Machine.Cipher := @anyOf Machine.Cipher ⟨Machine.Cipher.plain⟩

end Sys2Proof.Config

namespace Sys2Proof.Machine

/-! ## What an operation puts out (Table 1-7), from the inputs it read at its start -/

/-- The check value of a CHECK. Another operation gives none: no request takes one from it (entry 22). -/
def CipherInput.value : CipherInput → CheckValue
  | .check alg key => Config.cipher.check alg key
  | _ => 0

/-- The bytes of the other three: a terminal key, the wrapped key data with its authenticator, a tag. -/
def CipherInput.bytes : CipherInput → Text
  | .derive alg root tki => Config.cipher.derive alg root tki
  | .wrap alg transport header key =>
    Config.cipher.wrap alg transport header key ++
      Config.cipher.auth alg transport header (Config.cipher.wrap alg transport header key)
  | .tag cls alg key kver label => Config.cipher.tag cls alg key kver label
  | .check _ _ => []

end Sys2Proof.Machine
end

