-- ==== Sys2Proof/Machine/Operands.lean ====
section
/-! DEFINITION. How an owning block reads the arguments of a request: missing arguments, value forms, ranges (R174,
R175, step 8), and the answer it forms. -/

namespace Sys2Proof.Machine

/-- R177: the answer of an owning block to a request. -/
inductive Answer where
  | ok (fields : List Item)
  | err (code : ErrCode) (fields : List Item)
  deriving DecidableEq, Repr

/-- A refused request changes nothing (R175). -/
def refuse (c : ErrCode) (s : State) : Answer × State := (.err c [], s)

/-- A required value: missing or malformed, the request is refused BAD-SYNTAX. -/
def Arg.need {α : Type} (a : Arg α) (s : State) (k : α → Answer × State) : Answer × State :=
  match a with
  | .val v => k v
  | _ => refuse .badSyntax s

/-- A required number of at most `d` digits (R174; 7 digits in R81 and R98). -/
def Arg.num (a : Arg Nat) (d : Nat) (s : State) (k : Nat → Answer × State) : Answer × State :=
  match a with
  | .val v => if v < 10 ^ d then k v else refuse .badSyntax s
  | _ => refuse .badSyntax s

/-- An optional value. -/
def Arg.opt {α : Type} (a : Arg α) (s : State) (k : Option α → Answer × State) : Answer × State :=
  match a with
  | .val v => k (some v)
  | .absent => k none
  | .malformed => refuse .badSyntax s

/-- An optional number of at most `d` digits. -/
def Arg.optNum (a : Arg Nat) (d : Nat) (s : State) (k : Option Nat → Answer × State) : Answer × State :=
  match a with
  | .val v => if v < 10 ^ d then k (some v) else refuse .badSyntax s
  | .absent => k none
  | .malformed => refuse .badSyntax s

/-- A number below `bound`; at or above it, the request is refused RANGE. -/
def below (bound n : Nat) (s : State) (k : Answer × State) : Answer × State :=
  if n < bound then k else refuse .range s

/-- A required number below `bound`: a slot, plan, window or lane argument. -/
def Arg.index (a : Arg Nat) (bound : Nat) (s : State) (k : Nat → Answer × State) : Answer × State :=
  a.num 8 s fun n => below bound n s (k n)

/-- A number argument not of its form (more digits than `d` allows, or malformed). -/
def Arg.badNum (a : Arg Nat) (d : Nat) : Bool :=
  match a with
  | .val v => 10 ^ d ≤ v
  | .absent => false
  | .malformed => true

def Arg.isGiven {α : Type} (a : Arg α) : Bool :=
  match a with
  | .absent => false
  | _ => true

def Arg.isMalformed {α : Type} (a : Arg α) : Bool :=
  match a with
  | .malformed => true
  | _ => false

def Arg.toOption {α : Type} (a : Arg α) : Option α :=
  match a with
  | .val v => some v
  | _ => none

/-- A label or text of at most `n` printable characters (R26, R42, R72). -/
def fitsText (n : Nat) (t : Text) : Bool := t.length ≤ n && t.all isPrintable

/-- The nearest value in range (Conventions, clamped). -/
def clamp (lo hi v : Nat) : Nat := max lo (min hi v)

/-- Table 4-2: LIMIT is 0 or 1,000 to 3,600,000. -/
def clampLimit (v : Nat) : Nat := if v = 0 then 0 else clamp 1000 3600000 v

end Sys2Proof.Machine
end

