-- ==== Sys2Proof/Machine/Ops.lean ====
section
/-! DEFINITION. The named operations over the module's tables and ports that the blocks share. -/

namespace Sys2Proof.Machine

/-! ## Numbered places -/

def State.slotAt (s : State) (n : Nat) : Slot := look s.keys.slots none n
def State.setSlot (s : State) (n : Nat) (x : Slot) : State :=
  { s with keys := { s.keys with slots := put s.keys.slots n x } }
def State.accountAt (s : State) (n : Nat) : Option Account := look s.accounts none n
def State.setAccount (s : State) (n : Nat) (a : Option Account) : State :=
  { s with accounts := put s.accounts n a }
def State.planAt (s : State) (n : Nat) : Plan := look s.plans .factory n
def State.setPlan (s : State) (n : Nat) (p : Plan) : State := { s with plans := put s.plans n p }
def State.windowAt (s : State) (n : Nat) : Option Window := look s.windows none n
def State.setWindow (s : State) (n : Nat) (w : Option Window) : State := { s with windows := put s.windows n w }
def State.laneAt (s : State) (n : Nat) : Lane := look s.lanes (.down false 0) n
def State.setLane (s : State) (n : Nat) (l : Lane) : State := { s with lanes := put s.lanes n l }
def State.lineAt (s : State) (n : Nat) : BenchLine := look s.lines (.down .r9600 .none false) n
def State.setLine (s : State) (n : Nat) (l : BenchLine) : State := { s with lines := put s.lines n l }
/-- Roster entry `id`, 1 to 12 (R26). -/
def State.custodianAt (s : State) (id : Nat) : Option Custodian :=
  if id = 0 then none else look s.auth.roster none (id - 1)
def State.setCustodian (s : State) (id : Nat) (c : Option Custodian) : State :=
  if id = 0 then s else { s with auth := { s.auth with roster := put s.auth.roster (id - 1) c } }

def State.modLane (s : State) (n : Nat) (f : Lane → Lane) : State := s.setLane n (f (s.laneAt n))
def State.modLine (s : State) (n : Nat) (f : BenchLine → BenchLine) : State := s.setLine n (f (s.lineAt n))
/-- A change of the lane's run context, if it has one. -/
def State.modCtx (s : State) (n : Nat) (f : RunContext → RunContext) : State :=
  s.modLane n fun l => { l with ctx := l.ctx.map f }

/-- R4, R68: a slot becomes EMPTY, and any issue account of it is erased. Entry numbers stay (R16). -/
def State.emptySlot (s : State) (n : Nat) : State := (s.setSlot n none).setAccount n none

/-! ## Link Port: notices, replies, the transmitter (R178 to R180, R183) -/

/-- R179, R183: a notice is raised. During start-up it waits in the start-up hold. In a full buffer it is dropped, the
gap flag is set and the lost count rises, saturating. -/
def raiseNotice (l : Line) (s : State) : State :=
  if s.startUp.isSome then { s with link := { s.link with hold := s.link.hold ++ [l] } }
  else if s.link.notices.length < Config.noticePlaces then
    { s with link := { s.link with notices := s.link.notices ++ [l] } }
  else { s with link := { s.link with gap := true, lost := min Config.word16Max (s.link.lost + 1) } }

/-- A line as the transmitter sends it. -/
def Sent.of (isReply : Bool) (l : Line) : Sent := { isReply := isReply, line := l, wire := lineWire l }

/-- R180: the GAP line. -/
def gapLine (lost : Nat) : Line := [.word "!", .word "GAP", .field "LOST" (.num lost)]

/-- R178, R180: an idle transmitter takes the waiting reply, else the oldest notice; the place that frees takes the GAP
line if the gap flag is set. -/
def LinkPort.take (k : LinkPort) : LinkPort :=
  match k.sending, k.reply, k.notices with
  | some _, _, _ => k
  | none, some r, _ => { k with sending := some (Sent.of true r), reply := none }
  | none, none, l :: rest =>
    if k.gap then
      { k with sending := some (Sent.of false l), notices := rest ++ [gapLine k.lost], gap := false, lost := 0 }
    else { k with sending := some (Sent.of false l), notices := rest }
  | none, none, [] => k

/-- The transmitter at the end of an event (entry 9): all the event's lines are in place, then it takes its next. -/
def pump (s : State) : State := { s with link := s.link.take }

/-- R178: a reply is waiting or being sent. -/
def LinkPort.replyBusy (k : LinkPort) : Bool :=
  k.reply.isSome || (match k.sending with | some x => x.isReply | none => false)

def setReply (l : Line) (s : State) : State := { s with link := { s.link with reply := some l } }

/-- R177: the reply of an answer. -/
def Answer.line (tag : Text) : Answer → Line
  | .ok fields => [.raw tag, .word "OK"] ++ fields
  | .err c fields => [.raw tag, .word "ERR", .word c.word] ++ fields

/-- A command ends: the transmitter takes its next line. -/
def finish (s : State) : Host.Outcome State Fault Refusal := .next (pump s)

/-! ## Panel Port: messages (R31, R32) -/

/-- R32: a message is raised; while 8 messages wait it is dropped. The message that is going out stands in the queue, and
counts among the 8, until it has gone out (entry 32). -/
def raiseMessage (l : Line) (s : State) : State :=
  if (s.panel.out.filter fun o => !o.isReply).length < Config.panelMessagesMax then
    { s with panel := { s.panel with out := s.panel.out ++ [{ isReply := false, line := l }] } }
  else s

/-- A line that goes to the host as a notice and to the panel as a message (R37, R48, R50). -/
def raiseBoth (l : Line) (s : State) : State := raiseMessage l (raiseNotice (.word "!" :: l) s)

/-! ## The dual window and admission (R38, R39, R176) -/

/-- R38: while the state is DUAL, the timer is started again from the full dual window. -/
def restartDual (s : State) : State :=
  if s.auth.state = .dual then { s with auth := { s.auth with dualTimer := some s.auth.dualWindow } } else s

/-- R39, R176: a request is admitted at its level. -/
def admitted (lvl : Level) (s : State) : Bool :=
  match lvl with
  | .operator => true
  | .custodian => s.auth.state = .dual

/-- Table 10-1, steps 4, 7 and 8: a request reaches its owner `h`, and its reply waits. `status` tells that the command
word is STATUS. An admitted CUSTODIAN-level request restarts the dual window timer whatever its owner does (R38). -/
def request (lvl : Level) (tag : Text) (status : Bool) (h : State → Answer × State) (s : State) : State :=
  if s.mode = .failed && !status then setReply ((Answer.err .failed []).line tag) s
  else if !admitted lvl s then setReply ((Answer.err .notAuthorised []).line tag) s
  else
    let s1 := match lvl with
      | .operator => s
      | .custodian => restartDual s
    let (a, s2) := h s1
    setReply (a.line tag) s2

/-! ## Records (R165) -/

/-- The OPEN entry of a lane's current run. -/
def isOpenOf (n : Nat) (r : Record) : Bool := !r.closed && r.lane = n
def State.modOpen (s : State) (n : Nat) (f : Record → Record) : State :=
  { s with records := { s.records with entries := s.records.entries.map fun r => if isOpenOf n r then f r else r } }

/-- R113, R165: the lane writes versions, identity, delivery entries and notes into its OPEN entry. -/
def syncOpen (n : Nat) (s : State) : State :=
  match (s.laneAt n).ctx with
  | none => s
  | some c => s.modOpen n fun r =>
      { r with version := c.version, routed := c.routed, identity := c.identity, deliveries := c.deliveries,
               notes := c.notes }

end Sys2Proof.Machine
end

