-- ==== Sys2Proof/Machine/CipherUnit.lean ====
section
/-! DEFINITION. The Cipher Unit: posting, arbitration, operation start, withdrawal, cancellation (R17 to R23, R25). -/

namespace Sys2Proof.Machine

/-- R18: the requesters after the eight lanes. -/
def reqAssembler : Nat := 8
def reqScrubber : Nat := 9

/-- What an operation start answers (R21). -/
inductive StartResult where
  | started
  | keyFault (slot : Nat)
  | skipped
  deriving DecidableEq, Repr

/-- The key of a slot; a slot without one gives no bytes (entry 22). -/
def State.slotKey (s : State) (n : Nat) : Text :=
  match s.slotAt n with
  | some { material := some m, .. } => m.key
  | _ => []
def State.slotAlg (s : State) (n : Nat) : AlgPair :=
  match s.slotAt n with
  | some r => r.alg
  | none => .b64k16

/-- R17, R18, R122: the inputs of a request, read from the slots as they stand. -/
def inputOf (s : State) : CipherRequest → CipherInput
  | .lane r => match r.op with
    | .derive => .derive (s.slotAlg r.slot) (s.slotKey r.slot) ((r.tki.map tkiText).getD [])
    | .check => .check (s.slotAlg r.slot) (r.key.getD (s.slotKey r.slot))
    | .wrap => .wrap (s.slotAlg r.tslot) (s.slotKey r.tslot) (r.header.getD []) (r.key.getD (s.slotKey r.slot))
  | .asmCheck _ alg key => .check alg key
  | .asmTag _ cls alg key kver label => .tag cls alg key kver label
  | .scrub n _ => match s.slotAt n with
    | some r => .tag r.cls r.alg (s.slotKey n) r.kver r.label
    | none => .tag .root .b64k16 [] 0 []

/-- R21: the check of the slots a request names, as they stand. -/
def startCheck (s : State) : CipherRequest → StartResult
  | .lane r => if (s.slotAt r.slot).isFaulted then .keyFault r.slot
    else if (s.slotAt r.tslot).isFaulted then .keyFault r.tslot else .started
  | .scrub n _ => match s.slotAt n with
    | none => .skipped
    | some r => if r.state = .assembling then .skipped else .started
  | _ => .started

/-- R19: the unit is free: nothing executes, no self-test is under way (R25), and the mode is NORMAL (R188). -/
def cipherFree (s : State) : Bool :=
  s.cipher.executing.isNone && !s.cipher.selfTest && s.mode = .normal

/-- R19, R21: requester `q` is served. It becomes the last-served requester, executed or not. -/
def serveRequester (q : Nat) (req : CipherRequest) (s : State) : State × StartResult :=
  let s1 := { s with cipher := { s.cipher with waiting := put s.cipher.waiting q none, last := q } }
  match startCheck s req with
  | .started =>
    ({ s1 with cipher := { s1.cipher with
        executing := some { requester := q, request := req, input := inputOf s req, dropped := false } } }, .started)
  | r => (s1, r)

/-- R18, R19: a request is posted. While the unit is free it is the one waiting request, and it is served at once. -/
def post (q : Nat) (req : CipherRequest) (s : State) : State × StartResult :=
  if cipherFree s then serveRequester q req s
  else ({ s with cipher := { s.cipher with waiting := put s.cipher.waiting q (some req) } }, .started)

/-- R19: the first waiting requester after the one served last, in the cyclic order. -/
def nextWaiting (u : CipherUnit) : Option (Nat × CipherRequest) :=
  (List.range 10).findSome? fun i =>
    let q := (u.last + 1 + i) % 10
    (look u.waiting none q).map fun r => (q, r)

/-- A lane that received KEY-FAULT: the lane, the ordinal its request carried, the slot. -/
abbrev FaultNote := Nat × BitVec 16 × Nat

/-- R19, R21: while the unit is free and requests wait, the next one is served; a request that fails its start check
leaves the unit free. The lanes that met KEY-FAULT are listed in the order served. Ten turns suffice: each serves one
of ten places. -/
def serveWaiting : Nat → State → State × List FaultNote
  | 0, s => (s, [])
  | fuel + 1, s =>
    if cipherFree s then
      match nextWaiting s.cipher with
      | none => (s, [])
      | some (q, req) =>
        match serveRequester q req s with
        | (s1, .started) => (s1, [])
        | (s1, .skipped) => serveWaiting fuel s1
        | (s1, .keyFault n) =>
          let (s2, rest) := serveWaiting fuel s1
          match req with
          | .lane r => (s2, (q, r.ordinal, n) :: rest)
          | _ => (s2, rest)
    else (s, [])

/-- R23: a waiting request is withdrawn. -/
def withdraw (q : Nat) (s : State) : State :=
  { s with cipher := { s.cipher with waiting := put s.cipher.waiting q none } }
/-- R23: whether a withdrawal is taken or too late. -/
def isWaiting (q : Nat) (s : State) : Bool := (look s.cipher.waiting none q).isSome

/-- R23, R25: every waiting request is cancelled and the executing operation is marked, so that its output is dropped.
The self-test's operations are no requester's and are not marked. -/
def cancelAll (u : CipherUnit) : CipherUnit :=
  { u with waiting := Vector.replicate 10 none, executing := u.executing.map fun e => { e with dropped := true } }

end Sys2Proof.Machine
end

