-- ==== Sys2Proof/Machine/KeyStore.lean ====
section
/-! DEFINITION. The Key Store (chapter 1): binding, delivery start, release, the slot requests, the scrubber's timer. -/

namespace Sys2Proof.Machine

/-! ## Binding and release (R11 to R13) -/

/-- R11: a binding for the lane with `held` more reservations; a slot has at most one binding a lane, in lane order. -/
def addBinding (lane held : Nat) : List Binding → List Binding
  | [] => [{ lane := lane, held := held }]
  | b :: rest =>
    if lane < b.lane then { lane := lane, held := held } :: b :: rest
    else if lane = b.lane then { b with held := b.held + held } :: rest
    else b :: addBinding lane held rest

/-- R2: the class a LOAD step's key slot must have. -/
def StepKind.keyClass : StepKind → KeyClass
  | .loadDirect => .direct
  | _ => .root

/-- R11, Table 1-6: the six checks of one LOAD step, in order, and what passing them does. -/
def bindStep (lane : Nat) (st : Step) (slots : Table 64 Slot) : Except BindReason (Table 64 Slot) :=
  let ks := st.slot.getD 64
  let ts := st.tslot.getD 64
  match look slots none ks with
  | none => .error .slotState
  | some k =>
    if k.state ≠ .active then .error .slotState
    else if k.cls ≠ st.kind.keyClass then .error .cls
    else match k.allowance with
      | none => .error .budget
      | some al =>
        if !al.available then .error .budget
        else match look slots none ts with
          | none => .error .slotState
          | some t =>
            if t.state ≠ .active then .error .slotState
            else if t.cls ≠ .transport then .error .cls
            else if t.alg.rank < k.alg.rank then .error .weakTransport
            else
              let k' := { k with allowance := some { al with reserved := al.reserved + 1 },
                                 bound := addBinding lane 1 k.bound }
              let t' := { t with bound := addBinding lane 0 t.bound }
              .ok (put (put slots ks (some k')) ts (some t'))

/-- R11: the steps in order; the first check that fails ends the request with its reason and step index. -/
def bindSteps (lane : Nat) : List (Nat × Step) → Table 64 Slot → Except (BindReason × Nat) (Table 64 Slot)
  | [], slots => .ok slots
  | (i, st) :: rest, slots =>
    match bindStep lane st slots with
    | .error r => .error (r, i)
    | .ok slots' => bindSteps lane rest slots'

/-- R11: a bind request is taken whole; a failure leaves no trace of it. -/
def bindSlots (lane : Nat) (loads : List (Nat × Step)) (s : State) : Except (BindReason × Nat) State :=
  match bindSteps lane loads s.keys.slots with
  | .error e => .error e
  | .ok slots => .ok { s with keys := { s.keys with slots := slots } }

/-- R12: a delivery start. A lane that has no binding on the slot changes nothing. -/
def deliveryStart (lane slot : Nat) (s : State) : State :=
  match s.slotAt slot with
  | some r =>
    match r.bound.find? (fun b => b.lane = lane), r.allowance with
    | some _, some al =>
      s.setSlot slot (some { r with
        allowance := some { budget := al.budget.spend, reserved := al.reserved - 1 }
        bound := r.bound.map fun b => if b.lane = lane then { b with held := b.held - 1 } else b })
    | _, _ => s
  | none => s

/-- R13: one slot's part of a release. -/
def releaseSlot (lane : Nat) (x : Slot) : Slot :=
  x.map fun r =>
    let held := ((r.bound.filter fun b => b.lane = lane).map Binding.held).sum
    { r with bound := r.bound.filter fun b => b.lane ≠ lane
             allowance := r.allowance.map fun al => { al with reserved := al.reserved - held } }

/-- R13: a release request of a lane. -/
def releaseLane (lane : Nat) (s : State) : State :=
  { s with keys := { s.keys with slots := s.keys.slots.map (releaseSlot lane) } }

/-- R24, R188 step 2: bindings and reserved counts are cleared. -/
def clearBindings (slots : Table 64 Slot) : Table 64 Slot :=
  slots.map fun x => x.map fun r =>
    { r with bound := [], allowance := r.allowance.map fun al => { al with reserved := 0 } }

/-- R185, R186: the slots that are not EMPTY. -/
def usedSlots (s : State) : Nat := s.keys.slots.toList.countP Option.isSome

/-! ## Requests (R5 to R10, R14) -/

def fSlot (n : Nat) : Item := .field "SLOT" (.num n)
def fState (w : String) : Item := .field "STATE" (.word w)

/-- R5. -/
def suspendSlot (slot : Arg Nat) (s : State) : Answer × State :=
  slot.index 64 s fun n =>
    match s.slotAt n with
    | some r => if r.state = .active then
        (.ok [fSlot n, fState "SUSPENDED"], s.setSlot n (some { r with state := .suspended }))
      else refuse .wrongState s
    | none => refuse .wrongState s

/-- R6. -/
def resumeSlot (slot : Arg Nat) (s : State) : Answer × State :=
  slot.index 64 s fun n =>
    match s.slotAt n with
    | some r => if r.state = .suspended then
        (.ok [fSlot n, fState "ACTIVE"], s.setSlot n (some { r with state := .active }))
      else refuse .wrongState s
    | none => refuse .wrongState s

/-- R7. -/
def eraseSlot (slot : Arg Nat) (s : State) : Answer × State :=
  slot.index 64 s fun n =>
    match s.slotAt n with
    | some r =>
      if !r.bound.isEmpty then refuse .inUse s
      else if r.state = .assembling then refuse .wrongState s
      else (.ok [fSlot n, fState "EMPTY"], s.emptySlot n)
    | none => refuse .wrongState s

/-- R10: the refusals in order: RANGE above 1,000,000, WRONG-STATE, RANGE below the reserved count. -/
def setBudget (slot : Arg Nat) (budget : Arg Budget) (s : State) : Answer × State :=
  slot.num 8 s fun n =>
    budget.need s fun v =>
      let tooBig := match v with | .count m => decide (Config.budgetMax < m) | .unlimited => false
      let noNumber := match v with | .count m => decide (10 ^ 8 ≤ m) | .unlimited => false
      if noNumber then refuse .badSyntax s
      else below 64 n s <|
        if tooBig then refuse .range s
        else match s.slotAt n with
          | some r =>
            match r.allowance with
            | some al =>
              let short := match v with | .count m => decide (m < al.reserved) | .unlimited => false
              if r.state = .assembling then refuse .wrongState s
              else if short then refuse .range s
              else (.ok [fSlot n, .field "BUDGET" v.value, .field "RESERVED" (.num al.reserved)],
                    s.setSlot n (some { r with allowance := some { al with budget := v } }))
            | none => refuse .wrongState s
          | none => refuse .wrongState s

/-- R8: LIST-SLOTS. -/
def listSlots (s : State) : Answer × State :=
  (.ok [.field "STATES" (.raw (s.keys.slots.toList.map slotLetter))], s)

/-- R8: the visible fields of a slot; a field that is absent is left out. -/
def slotFields : Slot → List Item
  | none => [fState "EMPTY"]
  | some r =>
    [fState r.state.word, .field "CLASS" (.word r.cls.word), .field "ALG" (.word r.alg.family.word),
      .field "LEN" (.num r.alg.keyLen)] ++
    (match r.material with | some m => [.field "CV" (cvValue m.cv)] | none => []) ++
    [.field "LABEL" (.label r.label), .field "KVER" (.num r.kver)] ++
    (match r.allowance with
      | some al => [.field "BUDGET" al.budget.value, .field "RESERVED" (.num al.reserved)]
      | none => []) ++
    [.field "BOUND" (ids (r.bound.map Binding.lane))]

/-- R8: READ-SLOT. -/
def readSlot (slot : Arg Nat) (s : State) : Answer × State :=
  slot.index 64 s fun n => (.ok (slotFields (s.slotAt n)), s)

/-- R14: SET-SCRUB clamps to 3600; 0 stops the timer, another value starts it from the full interval. -/
def setScrub (interval : Arg Nat) (s : State) : Answer × State :=
  interval.num 8 s fun v =>
    let t := min Config.scrubMax v
    (.ok [.field "INTERVAL" (.num t)],
      { s with keys := { s.keys with scrubInterval := t, scrubTimer := if t = 0 then none else some t } })

/-! ## The scrubber (R15, R16) -/

/-- R15: the next slot after the pointer that is not EMPTY, cyclically, ending with the pointer's own. -/
def nextScrub (s : State) : Option Nat :=
  ((List.range 64).map fun i => (s.keys.scrubPointer + 1 + i) % 64).find? fun n => (s.slotAt n).isSome

/-- R14, R15: the scrub timer expires: it is started again from the full interval, and the scrubber posts a TAG for the
next slot unless its previous request still waits. -/
def scrubExpiry (s : State) : State :=
  match s.keys.scrubTimer with
  | none => s
  | some _ =>
    let s1 := { s with keys := { s.keys with scrubTimer := some s.keys.scrubInterval } }
    if isWaiting reqScrubber s1 then s1
    else match nextScrub s1 with
      | none => s1
      | some n =>
        let s2 := { s1 with keys := { s1.keys with scrubPointer := n } }
        (post reqScrubber (.scrub n (look s2.keys.entryNos 0 n)) s2).1

/-- R16: the scrubber compares the computed tag with the stored one. They agree where the slot's stored contents still
produce its tag: read `intact` (entry 6), they put out the tag `out` of the operation. -/
def scrubCompare (n : Nat) (entryNo : BitVec 16) (out : Text) (intact : Bool) (s : State) : State :=
  if look s.keys.entryNos 0 n ≠ entryNo then s
  else match s.slotAt n with
    | some r =>
      match r.material with
      | some m =>
        if intact && out = m.tag then s
        else if r.state = .active || r.state = .suspended then
          raiseNotice [.word "!", .word "SLOT-FAULT", fSlot n] (s.setSlot n (some { r with state := .faulted }))
        else s
      | none => s
    | none => s

end Sys2Proof.Machine
end

