-- ==== Sys2Proof/Machine/IssueUnit.lean ====
section
/-! DEFINITION. The Issue Counter Unit (chapter 3): accounts, reservation, consumption, return, voiding, the warning. -/

namespace Sys2Proof.Machine

def prefixValue (p : BitVec 24) : Value := .hex 6 p.toNat

/-- R66: the ISSUE-LOW notice. -/
def issueLow (n : Nat) (a : Account) : Line :=
  [.word "!", .word "ISSUE-LOW", fSlot n, .field "PREFIX" (prefixValue a.pfx),
    .field "REMAINING" (.num a.remaining), .field "THRESHOLD" (.num a.threshold)]
/-- R67: the ISSUE-EXHAUSTED notice. -/
def issueExhausted (n : Nat) (a : Account) : Line :=
  [.word "!", .word "ISSUE-EXHAUSTED", fSlot n, .field "PREFIX" (prefixValue a.pfx),
    .field "NEXT" (.num a.next), .field "LAST" (.num a.last)]

/-- R66, after a rise of remaining: armed when remaining is above the threshold. -/
def warnAfterRise (a : Account) : Account := if a.threshold < a.remaining then { a with armed := true } else a

/-- R66, after a change of threshold: the account stored, with its warning set and ISSUE-LOW sent when it is due. -/
def warnAfterThreshold (n : Nat) (a : Account) (s : State) : Account × State :=
  if a.threshold < a.remaining then
    let a' := { a with armed := true }
    (a', s.setAccount n (some a'))
  else if a.armed then
    let a' := { a with armed := false }
    (a', raiseNotice (issueLow n a') (s.setAccount n (some a')))
  else (a, s.setAccount n (some a))

/-! ## Reservation (R60 to R62) -/

/-- R61: the number a reservation takes, and the account after it. -/
def drawNumber (a : Account) : Nat × Account :=
  match a.returned with
  | m :: rest => (m, { a with returned := rest })
  | [] => (a.next, { a with next := a.next + a.step })

/-- R61, R66, R67: one reservation from slot `n`'s account, with the notices it sends. -/
def reserveOne (n : Nat) (a : Account) (s : State) : Tki × State :=
  let (m, a1) := drawNumber a
  let low := a.armed && a.threshold < a.remaining && a1.remaining ≤ a1.threshold
  let a2 := if low then { a1 with armed := false } else a1
  let s1 := s.setAccount n (some a2)
  let s2 := if low then raiseNotice (issueLow n a2) s1 else s1
  let s3 := if a2.remaining = 0 then raiseNotice (issueExhausted n a2) s2 else s2
  ({ pfx := a.pfx, number := m }, s3)

/-- R60, first pass: the first step whose account is missing or EXHAUSTED. -/
def reserveTest (s : State) : List (Nat × Nat) → Option (BindReason × Nat)
  | [] => none
  | (i, n) :: rest =>
    match s.accountAt n with
    | none => some (.noIssueAccount, i)
    | some a => if a.exhausted then some (.issueExhausted, i) else reserveTest s rest

/-- R60, second pass: one number for each step, in step order. -/
def reserveAll : List (Nat × Nat) → State → List (Nat × Tki) × State
  | [], s => ([], s)
  | (i, n) :: rest, s =>
    match s.accountAt n with
    | none => reserveAll rest s
    | some a =>
      let (t, s1) := reserveOne n a s
      let (ts, s2) := reserveAll rest s1
      ((i, t) :: ts, s2)

/-- R60: a reservation request: step indexes with their ROOT slots, in step order. It is taken whole. -/
def reserveIssue (wants : List (Nat × Nat)) (s : State) : Except (BindReason × Nat) (List (Nat × Tki) × State) :=
  match reserveTest s wants with
  | some e => .error e
  | none => .ok (reserveAll wants s)

/-! ## Consumption, return, voiding (R63 to R65) -/

/-- R63: a delivery start; a slot without an account changes nothing. -/
def consume (n : Nat) (s : State) : State :=
  match s.accountAt n with
  | none => s
  | some a => s.setAccount n (some { a with consumed := a.consumed + 1 })

/-- R64, R65: a number given back: into the list where there is room, else voided. The answer tells VOIDED. -/
def returnNumber (n m : Nat) (s : State) : Bool × State :=
  match s.accountAt n with
  | none => (true, s)
  | some a =>
    if a.returned.length < Config.returnedMax then
      (false, s.setAccount n (some (warnAfterRise { a with returned := insertAsc m a.returned })))
    else (true, s.setAccount n (some { a with voided := a.voided + 1 }))

/-- R64, R129 step 2, R189: the numbers of a run's RESERVED deliveries are given back, in list order. The TKIs answered
VOIDED are listed. -/
def returnAll : List Delivery → State → List Tki × State
  | [], s => ([], s)
  | d :: rest, s =>
    match d.phase, d.tki with
    | .reserved, some t =>
      let (v, s1) := returnNumber d.slot t.number s
      let (vs, s2) := returnAll rest s1
      (if v then t :: vs else vs, s2)
    | _, _ => returnAll rest s

/-! ## Requests (R56 to R59) -/

/-- R56, check 4: another account already has the prefix. -/
def prefixUsed (p : BitVec 24) (s : State) : Bool :=
  s.accounts.toList.any fun a => match a with
    | some x => x.pfx = p
    | none => false

/-- R56. -/
def openIssue (slot : Arg Nat) (pfx : Arg (BitVec 24)) (first last step threshold : Arg Nat) (s : State) :
    Answer × State :=
  slot.num 8 s fun n =>
  pfx.need s fun p =>
  first.num 8 s fun f =>
  last.num 8 s fun l =>
  step.optNum 8 s fun st =>
  threshold.optNum 8 s fun th =>
    below 64 n s <|
      let stp := st.getD 1
      let w := min Config.thresholdMax (th.getD Config.thresholdDefault)
      if Config.issueMax < f || Config.issueMax < l || l < f || stp = 0 || 16 < stp then refuse .range s
      else match s.slotAt n with
        | none => refuse .wrongState s
        | some r =>
          if r.state = .assembling || r.cls ≠ .root || (s.accountAt n).isSome then refuse .wrongState s
          else if prefixUsed p s then refuse .inUse s
          else
            let (a, s1) := warnAfterThreshold n
              { pfx := p, first := f, last := l, step := stp, next := f, returned := [], threshold := w,
                armed := true, consumed := 0, voided := 0 } s
            (.ok [fSlot n, .field "PREFIX" (prefixValue p), .field "REMAINING" (.num a.remaining),
              .field "THRESHOLD" (.num w), .field "ARMED" (yesNo a.armed)], s1)

/-- R57. -/
def extendIssue (slot last : Arg Nat) (s : State) : Answer × State :=
  slot.num 8 s fun n =>
  last.num 8 s fun v =>
    below 64 n s <|
      if Config.issueMax < v then refuse .range s
      else match s.accountAt n with
        | none => refuse .wrongState s
        | some a =>
          if v ≤ a.last then refuse .range s
          else
            let a' := warnAfterRise { a with last := v }
            (.ok [fSlot n, .field "LAST" (.num v), .field "NEXT" (.num a'.next), .field "REMAINING" (.num a'.remaining),
              .field "ARMED" (yesNo a'.armed)], s.setAccount n (some a'))

/-- R58. -/
def setIssueWarning (slot threshold : Arg Nat) (s : State) : Answer × State :=
  slot.num 8 s fun n =>
  threshold.num 8 s fun v =>
    below 64 n s <|
      match s.accountAt n with
      | none => refuse .wrongState s
      | some a =>
        let w := min Config.thresholdMax v
        let (a', s1) := warnAfterThreshold n { a with threshold := w } s
        (.ok [fSlot n, .field "THRESHOLD" (.num w), .field "REMAINING" (.num a'.remaining),
          .field "ARMED" (yesNo a'.armed)], s1)

/-- R59. -/
def issueFields (n : Nat) : Option Account → List Item
  | none => [fSlot n, .field "ACCOUNT" (.word "NONE")]
  | some a =>
    [fSlot n, .field "PREFIX" (prefixValue a.pfx), .field "FIRST" (.num a.first), .field "LAST" (.num a.last),
      .field "STEP" (.num a.step), .field "NEXT" (.num a.next), .field "RETURNED" (ids a.returned),
      .field "REMAINING" (.num a.remaining), .field "RESERVED" (.num a.reserved), .field "CONSUMED" (.num a.consumed),
      .field "VOIDED" (.num a.voided), .field "THRESHOLD" (.num a.threshold), .field "ARMED" (yesNo a.armed),
      fState (if a.exhausted then "EXHAUSTED" else "OPEN")]

/-- R59. -/
def readIssue (slot : Arg Nat) (s : State) : Answer × State :=
  slot.index 64 s fun n => (.ok (issueFields n (s.accountAt n)), s)

/-- R185, R186: the accounts that exist. -/
def usedAccounts (s : State) : Nat := s.accounts.toList.countP Option.isSome

end Sys2Proof.Machine
end

