-- ==== Sys2Proof/Machine/PlanStore.lean ====
section
/-! DEFINITION. The Plan Store (chapter 4): editing, reading, install and removal, binding and release of versions. -/

namespace Sys2Proof.Machine

def fPlan (n : Nat) : Item := .field "PLAN" (.num n)
def fSteps (l : List Step) : Item := .field "STEPS" (.num l.length)

/-! ## Operands of a step kind (R72, Table 4-2) -/

/-- The operands that each kind takes, in the order of Table 4-2. -/
def StepKind.takes : StepKind → List String
  | .await => ["LIMIT"]
  | .hail | .identify | .seal => ["TIMEOUT"]
  | .route => []
  | .loadDirect | .loadDerived => ["SLOT", "TSLOT", "POS", "TIMEOUT"]
  | .verify => ["POS", "TIMEOUT", "CONT"]
  | .tag => ["TEXT", "TIMEOUT", "CONT"]
  | .pause => ["DURATION"]

/-- R81, check 2, of one operand: not given, or taken by the kind and in its form. -/
def operandFits {α : Type} (k : StepKind) (name : String) (a : Arg α) (form : α → Bool) : Bool :=
  match a with
  | .absent => true
  | .malformed => false
  | .val v => k.takes.contains name && form v

/-- R81: a number of 1 to 7 decimal digits. -/
def sevenDigits (n : Nat) : Bool := n < 10 ^ 7

/-- R81, check 2, of the operands of a step. -/
def StepArgs.fit (k : StepKind) (a : StepArgs) : Bool :=
  operandFits k "SLOT" a.slot sevenDigits && operandFits k "TSLOT" a.tslot sevenDigits &&
  operandFits k "POS" a.pos sevenDigits && operandFits k "TEXT" a.text (fitsText 16) &&
  operandFits k "DURATION" a.duration sevenDigits && operandFits k "LIMIT" a.limit sevenDigits &&
  operandFits k "TIMEOUT" a.timeout sevenDigits && operandFits k "CONT" a.cont (fun _ => true)

/-- R81, Table 4-2: the step as it is stored, its three times clamped. -/
def StepArgs.toStep (k : StepKind) (a : StepArgs) : Step :=
  { kind := k, slot := a.slot.toOption, tslot := a.tslot.toOption, pos := a.pos.toOption, text := a.text.toOption
    duration := a.duration.toOption.map (clamp 10 60000)
    limit := a.limit.toOption.map clampLimit
    timeout := a.timeout.toOption.map (clamp 100 60000)
    cont := a.cont.toOption }

/-- R81: an operand that a clamp changed, with the value taken (entry 14). -/
def clampedItem (name : String) (given taken : Option Nat) : List Item :=
  match taken with
  | some v => if given = some v then [] else [.field name (.num v)]
  | none => []
def StepArgs.clampedItems (a : StepArgs) (st : Step) : List Item :=
  clampedItem "DURATION" a.duration.toOption st.duration ++ clampedItem "LIMIT" a.limit.toOption st.limit ++
    clampedItem "TIMEOUT" a.timeout.toOption st.timeout

/-! ## Editing (R80 to R82) -/

/-- R80: the draft, or the draft that EDIT-PLAN would make. -/
def Plan.workDraft (p : Plan) : Draft :=
  match p.draft, p.installed with
  | some d, _ => d
  | none, some v => { label := v.label, steps := v.steps }
  | none, none => { label := [], steps := [] }

/-- R80: a draft stored in plan `p`, and the head of the reply. -/
def storeDraft (p : Nat) (d : Draft) (more : List Item) (s : State) : Answer × State :=
  (.ok ([fPlan p, fSteps d.steps] ++ more), s.setPlan p { s.planAt p with draft := some d })

/-- R80: where a step goes. -/
def placeStep (insert : Bool) (i : Nat) (st : Step) (l : List Step) : List Step :=
  if insert then l.take i ++ st :: l.drop i else l.set i st

/-- R81, check 3, for SET and INSERT. -/
def stepPlaced (insert : Bool) (i : Nat) (l : List Step) : Bool :=
  if insert then i ≤ l.length && l.length < Config.stepsMax else i < l.length

/-- R80, R81: EDIT-PLAN with SET or INSERT. -/
def editPlanStep (insert : Bool) (plan step : Arg Nat) (kind : Arg StepKind) (ops : StepArgs) (extra : Bool)
    (s : State) : Answer × State :=
  plan.index 16 s fun p =>
  step.num 7 s fun i =>
  kind.need s fun k =>
    if extra || !ops.fit k then refuse .badSyntax s
    else
      let d := (s.planAt p).workDraft
      if !stepPlaced insert i d.steps then refuse .range s
      else
        let st := ops.toStep k
        storeDraft p { d with steps := placeStep insert i st d.steps }
          ([.field "STEP" (.num i), .field "KIND" (.word k.word)] ++ ops.clampedItems st) s

/-- R80, R81: EDIT-PLAN with DELETE. -/
def editPlanDelete (plan step : Arg Nat) (extra : Bool) (s : State) : Answer × State :=
  plan.index 16 s fun p =>
  step.num 7 s fun i =>
    if extra then refuse .badSyntax s
    else
      let d := (s.planAt p).workDraft
      if d.steps.length ≤ i then refuse .range s
      else storeDraft p { d with steps := d.steps.eraseIdx i } [] s

/-- R80, R81: EDIT-PLAN with LABEL. -/
def editPlanLabel (plan : Arg Nat) (label : Arg Text) (extra : Bool) (s : State) : Answer × State :=
  plan.index 16 s fun p =>
  label.opt s fun l =>
    if extra || !fitsText 16 (l.getD []) then refuse .badSyntax s
    else storeDraft p { (s.planAt p).workDraft with label := l.getD [] } [] s

/-- R82. -/
def discardDraft (plan : Arg Nat) (s : State) : Answer × State :=
  plan.index 16 s fun p =>
    if (s.planAt p).draft.isNone then refuse .wrongState s
    else (.ok [fPlan p, .field "DRAFT" (.word "NONE")], s.setPlan p { s.planAt p with draft := none })

/-! ## Reading (R83) -/

def versionNo : Option Version → Value
  | some v => .num v.number
  | none => .word "NONE"

/-- R83: READ-PLAN PLAN=p. -/
def readPlan (plan : Arg Nat) (s : State) : Answer × State :=
  plan.index 16 s fun n =>
    let p := s.planAt n
    (.ok ([fPlan n, .field "COUNTER" (.num p.counter), .field "INSTALLED" (versionNo p.installed)] ++
      (match p.installed with
        | some v => [.field "LABEL" (.label v.label), fSteps v.steps, .field "USERS" (ids p.users)]
        | none => []) ++
      [.field "RETIRING" (versionNo p.retiring)] ++
      (if p.retiring.isSome then [.field "RUSERS" (ids p.rusers)] else []) ++
      [.field "DRAFT" (match p.draft with | some d => .num d.steps.length | none => .word "NONE")]), s)

/-- R83: the version that WHICH names. -/
def Plan.which (p : Plan) : Which → Option Draft
  | .installed => p.installed.map fun v => { label := v.label, steps := v.steps }
  | .retiring => p.retiring.map fun v => { label := v.label, steps := v.steps }
  | .draft => p.draft

/-- One operand of a step, left out when absent. -/
def operandItem {α : Type} (name : String) (f : α → Value) (x : Option α) : List Item :=
  (x.map fun v => Item.field name (f v)).toList

/-- R174: a TEXT is quoted for a space or a double quote in it; one of no characters is no label, and is plain. -/
def textValue (t : Text) : Value := if t.isEmpty then .raw [] else .label t

/-- R83: a step's operands, in the order of Table 4-2. -/
def Step.items (st : Step) : List Item :=
  operandItem "SLOT" .num st.slot ++ operandItem "TSLOT" .num st.tslot ++ operandItem "POS" .num st.pos ++
    operandItem "TEXT" textValue st.text ++ operandItem "DURATION" .num st.duration ++
    operandItem "LIMIT" .num st.limit ++ operandItem "TIMEOUT" .num st.timeout ++ operandItem "CONT" yesNo st.cont

/-- R83: READ-PLAN with WHICH, with STEP or without. R83 gives the form without STEP for a draft or retiring version; the
installed version is answered in the same form (entry 33). -/
def readPlanStep (plan : Arg Nat) (which : Arg Which) (step : Arg Nat) (s : State) : Answer × State :=
  plan.num 8 s fun n =>
  which.need s fun w =>
  step.optNum 8 s fun i =>
    below 16 n s <|
      let head := [fPlan n, .field "WHICH" (.word w.word)]
      match (s.planAt n).which w with
      | none => refuse .wrongState s
      | some v =>
        match i with
        | none => (.ok (head ++ [.field "LABEL" (.label v.label), fSteps v.steps]), s)
        | some i =>
          match v.steps[i]? with
          | none => refuse .range s
          | some st =>
            (.ok (head ++ [.field "STEP" (.num i), .field "KIND" (.word st.kind.word)] ++ st.items), s)

/-! ## Install validation (R84) -/

/-- Table 4-4, and the draft of no steps. -/
inductive DraftFault where
  | empty | operand | loadCount | positionTwice | rootTwice | verifyOrder | routeTwice | routeOrder | routeMixed
  deriving DecidableEq, Repr

def DraftFault.word : DraftFault → String
  | .empty => "EMPTY" | .operand => "OPERAND" | .loadCount => "LOAD-COUNT" | .positionTwice => "POSITION-TWICE"
  | .rootTwice => "ROOT-TWICE" | .verifyOrder => "VERIFY-ORDER" | .routeTwice => "ROUTE-TWICE"
  | .routeOrder => "ROUTE-ORDER" | .routeMixed => "ROUTE-MIXED"

/-- Table 4-4, check 1: an operand that is required and present, in range. -/
def presentBelow (bound : Nat) (x : Option Nat) : Bool :=
  match x with
  | some v => v < bound
  | none => false

/-- Table 4-4, check 1. -/
def Step.operandsOk (st : Step) : Bool :=
  match st.kind with
  | .loadDirect | .loadDerived => presentBelow 64 st.slot && presentBelow 64 st.tslot && presentBelow 10 st.pos
  | .verify => presentBelow 10 st.pos
  | .pause => st.duration.isSome
  | _ => true

/-- Table 4-4: the checks of one step after the steps `before`, in order; the first that fails. -/
def stepFault (before : List Step) (st : Step) : Option DraftFault :=
  let loads := before.filter fun x => x.kind.isLoad
  let mixes := fun (x : Step) => x.kind.isLoad || x.kind = .verify
  if !st.operandsOk then some .operand
  else if st.kind.isLoad && Config.loadsMax ≤ loads.length then some .loadCount
  else if st.kind.isLoad && loads.any (fun x => x.pos = st.pos) then some .positionTwice
  else if st.kind = .loadDerived && before.any (fun x => x.kind = .loadDerived && x.slot = st.slot) then some .rootTwice
  else if st.kind = .verify && !loads.any (fun x => x.pos = st.pos) then some .verifyOrder
  else if st.kind = .route && routes before then some .routeTwice
  else if st.kind = .route && !before.any (fun x => x.kind = .identify) then some .routeOrder
  else if routes (before ++ [st]) && (before ++ [st]).any mixes then some .routeMixed
  else none

/-- R84: the walk, from step `i` with the steps before it. -/
def walkDraft (before : List Step) : List Step → Option (Nat × DraftFault)
  | [] => none
  | st :: rest =>
    match stepFault before st with
    | some f => some (before.length, f)
    | none => walkDraft (before ++ [st]) rest

/-- R84. -/
def draftFault (steps : List Step) : Option (Nat × DraftFault) :=
  if steps.isEmpty then some (0, .empty) else walkDraft [] steps

/-! ## Install and removal (R85, R86) -/

/-- R71, R85: the version counter plus 1, 65,535 followed by 1. -/
def nextVersion (c : Nat) : Nat := if Config.word16Max ≤ c then 1 else c + 1

/-- R85: a valid draft put into service. -/
def Plan.install (p : Plan) (d : Draft) : Plan :=
  let v := nextVersion p.counter
  let keep := p.installed.isSome && !p.users.isEmpty
  { installed := some { number := v, label := d.label, steps := d.steps }
    users := []
    retiring := if keep then p.installed else p.retiring
    rusers := if keep then p.users else p.rusers
    draft := none
    counter := v }

/-- R85. -/
def installPlan (plan : Arg Nat) (s : State) : Answer × State :=
  plan.index 16 s fun n =>
    let p := s.planAt n
    match p.draft with
    | none => refuse .wrongState s
    | some d =>
      match draftFault d.steps with
      | some (i, r) => (.err .draftInvalid [.field "STEP" (.num i), .field "REASON" (.word r.word)], s)
      | none =>
        if p.retiring.isSome then refuse .busy s
        else
          let p' := p.install d
          (.ok [fPlan n, .field "VERSION" (.num p'.counter), .field "RETIRING" (versionNo p'.retiring)],
            s.setPlan n p')

/-- R86. -/
def removePlan (plan : Arg Nat) (s : State) : Answer × State :=
  plan.index 16 s fun n =>
    let p := s.planAt n
    if p.installed.isNone then refuse .wrongState s
    else if !p.users.isEmpty && p.retiring.isSome then refuse .busy s
    else
      let p' := if p.users.isEmpty then { p with installed := none }
        else { p with installed := none, users := [], retiring := p.installed, rusers := p.users }
      (.ok [fPlan n, .field "INSTALLED" (.word "NONE"), .field "RETIRING" (versionNo p'.retiring)], s.setPlan n p')

/-! ## Binding and release (R87, R88) -/

/-- R87: the answer to a version bind request. -/
inductive VersionAnswer where
  | noPlan
  | routes
  | ok (v : Version) (s : State)

/-- R87: a version bind request of a lane, from a run start or from ROUTE. -/
def bindVersion (lane n : Nat) (fromRoute : Bool) (s : State) : VersionAnswer :=
  let p := s.planAt n
  match p.installed with
  | none => .noPlan
  | some v =>
    if fromRoute && routes v.steps then .routes
    else .ok v (s.setPlan n { p with users := insertAsc lane p.users })

/-- R88: a version release on its plan. -/
def Plan.release (p : Plan) (lane number : Nat) : Plan :=
  if (p.installed.map Version.number) = some number && p.users.contains lane then
    { p with users := p.users.filter (· ≠ lane) }
  else if (p.retiring.map Version.number) = some number && p.rusers.contains lane then
    let left := p.rusers.filter (· ≠ lane)
    { p with rusers := left, retiring := if left.isEmpty then none else p.retiring }
  else p

/-- R88. -/
def releaseVersion (lane n number : Nat) (s : State) : State := s.setPlan n ((s.planAt n).release lane number)

/-- R89, Table 4-7: what a start-up leaves of a plan. -/
def Plan.restarted (p : Plan) : Plan := { p with users := [], retiring := none, rusers := [], draft := none }

end Sys2Proof.Machine
end

