-- ==== Sys2Proof/Machine/RecordQueue.lean ====
section
/-! DEFINITION. The Record Queue (chapter 9): reservation, closing, collection. -/

namespace Sys2Proof.Machine

def fLane (n : Nat) : Item := .field "LANE" (.num n)
def fOrdinal (o : BitVec 16) : Item := .field "ORDINAL" (.num o.toNat)

/-! ## Reservation and closing (R161, R164, R166) -/

/-- R164: a reservation finds a place. -/
def placeFree (s : State) : Bool := s.records.entries.length < Config.recordPlaces

/-- R164: a granted reservation: the entry at the tail, and the lane out of the waiting lanes. -/
def addRecord (r : Record) (s : State) : State :=
  { s with records := { s.records with
      entries := s.records.entries ++ [r]
      waiting := s.records.waiting.filter (· ≠ r.lane)
      told := s.records.told.filter (· ≠ r.lane) } }

/-- R164: the RECORDS-FULL notice. -/
def recordsFull (lane : Nat) (l : List Record) : Line :=
  [.word "!", .word "RECORDS-FULL", fLane lane, .field "OPEN" (.num (openCount l)),
    .field "CLOSED" (.num (closedCount l))]

/-- R164: a refused reservation. -/
def refuseRecord (lane : Nat) (s : State) : State :=
  let s1 := { s with records := { s.records with
    waiting := insertAsc lane s.records.waiting
    told := s.records.told.filter (· ≠ lane)
    fullReported := true } }
  if s.records.fullReported then s1 else raiseNotice (recordsFull lane s.records.entries) s1

/-- R170: a lane leaves the waiting lanes. -/
def leaveWaiting (lane : Nat) (s : State) : State :=
  { s with records := { s.records with
      waiting := s.records.waiting.filter (· ≠ lane)
      told := s.records.told.filter (· ≠ lane) } }

/-- R166: the OPEN entry of a lane is closed. -/
def closeRecord (lane : Nat) (o : Outcome) (failStep : Option Nat) (voided : List Tki) (s : State) : State :=
  s.modOpen lane fun r => { r with closed := true, outcome := some o, failStep := failStep, voided := voided }

/-! ## Collection (R167 to R169) -/

def orNone {α : Type} (f : α → Value) : Option α → Value
  | some x => f x
  | none => .word "NONE"

/-- R167: an entry's summary. -/
def Record.summary (r : Record) : List Item :=
  [fLane r.lane, fOrdinal r.ordinal, .field "STATE" (.word (if r.closed then "CLOSED" else "OPEN")),
    .field "TAG" (.num r.tag), .field "ITERATION" (.num r.iteration), .field "PLAN" (.num r.plan),
    .field "VERSION" (orNone .num r.version),
    .field "ROUTED" (orNone (fun p => .raw (dec p.1 ++ txt ":" ++ dec p.2)) r.routed),
    .field "OUTCOME" (orNone (fun o => .raw o.text) r.outcome),
    .field "STEP" (orNone .num r.failStep),
    .field "IDENT" (orNone (fun i => .raw (identText i)) r.identity),
    .field "DELIVERIES" (.num r.deliveries.length), .field "VOIDED" (.num r.voided.length),
    .field "NOTES" (.num r.notes.length)]

/-- R167: READ-RECORD without arguments. -/
def readRecord (s : State) : Answer × State :=
  match oldestClosed s.records.entries with
  | some r => (.ok r.summary, s)
  | none => refuse .empty s

def Record.isRef (n o : Nat) (r : Record) : Bool := r.lane = n && r.ordinal.toNat = o
/-- R162: the entry with a reference. -/
def recordAt (n o : Nat) (s : State) : Option Record := s.records.entries.find? (Record.isRef n o)

/-- R168: the reference of a record request: its forms, then its ranges. -/
def recordRef (lane ordinal : Arg Nat) (s : State) (k : Nat → Nat → Answer × State) : Answer × State :=
  lane.num 8 s fun n =>
  ordinal.num 8 s fun o =>
    below 8 n s (below (Config.word16Max + 1) o s (k n o))

/-- R168: a reading of one entry; a reference that names none is refused EMPTY. -/
def readEntry (lane ordinal : Arg Nat) (extra : Bool) (f : Record → List Item) (s : State) : Answer × State :=
  if extra then refuse .badSyntax s
  else recordRef lane ordinal s fun n o =>
    match recordAt n o s with
    | some r => (.ok (f r), s)
    | none => refuse .empty s

/-- R168: READ-RECORD with a reference and without PART. -/
def readRecordEntry (lane ordinal : Arg Nat) (extra : Bool) (s : State) : Answer × State :=
  readEntry lane ordinal extra Record.summary s

def Record.ref (r : Record) : List Item := [fLane r.lane, fOrdinal r.ordinal]

/-- R168: PART=VOIDED. -/
def readRecordVoided (lane ordinal : Arg Nat) (extra : Bool) (s : State) : Answer × State :=
  readEntry lane ordinal extra
    (fun r => r.ref ++ [.field "VOIDED" (.raw (commaList (r.voided.map tkiText)))]) s

/-- R168: PART=NOTES. -/
def readRecordNotes (lane ordinal : Arg Nat) (extra : Bool) (s : State) : Answer × State :=
  readEntry lane ordinal extra
    (fun r => r.ref ++ [.field "NOTES" (.raw (commaList (r.notes.map noteText)))]) s

/-- R168: one delivery entry. -/
def Delivery.items (k : Nat) (d : Delivery) : List Item :=
  [.field "INDEX" (.num k), .field "POS" (.num d.pos), .field "SLOT" (.num d.slot), .field "TSLOT" (.num d.tslot)] ++
    (d.cv.map fun v => Item.field "CV" (cvValue v)).toList ++
    [.field "PHASE" (.word d.phase.word)] ++
    (d.reason.map fun r => Item.field "REASON" (.word r.word)).toList ++
    (d.tki.map fun t => Item.field "TKI" (.raw (tkiText t))).toList

/-- R168: PART=DELIVERY. -/
def readRecordDelivery (lane ordinal index : Arg Nat) (s : State) : Answer × State :=
  if index.badNum 8 || !index.isGiven then refuse .badSyntax s
  else recordRef lane ordinal s fun n o =>
    match recordAt n o s with
    | none => refuse .empty s
    | some r =>
      index.num 8 s fun k =>
        match r.deliveries[k]? with
        | some d => (.ok (r.ref ++ d.items k), s)
        | none => refuse .range s

/-- R169: DISCARD-RECORD. Every waiting lane is told; its retry is RESERVATION_RETRY. -/
def discardRecord (lane ordinal : Arg Nat) (s : State) : Answer × State :=
  recordRef lane ordinal s fun n o =>
    match oldestClosed s.records.entries with
    | none => refuse .mismatch s
    | some r =>
      if !r.isRef n o then refuse .mismatch s
      else
        let left := s.records.entries.eraseP fun x => x.closed
        (.ok (r.ref ++ [.field "FREE" (.num (freePlaces left))]),
          { s with records := { s.records with
              entries := left, told := s.records.waiting, fullReported := false } })

end Sys2Proof.Machine
end

