-- ==== Sys2Proof/Machine/WindowTable.lean ====
section
/-! DEFINITION. The Window Table (chapter 5): the windows, the default route, the route decision. -/

namespace Sys2Proof.Machine

def chWild : Byte := 0x3F
/-- R90: a character of a model pattern. -/
def isPatternChar (c : Byte) : Bool := isModelChar c || c = chWild
/-- R90: a model pattern. -/
def isPattern (t : Text) : Bool := t.length = 4 && t.all isPatternChar

/-! ## Matching and the decision (R93 to R96) -/

/-- R93. -/
def modelMatches (pattern model : Text) : Bool :=
  pattern.length = model.length && (pattern.zip model).all fun p => p.1 = chWild || p.1 = p.2
/-- R94. -/
def SerialTest.passes (t : SerialTest) (serial : BitVec 32) : Bool :=
  match t with
  | .any => true
  | .mask b m => serial &&& m = b &&& m
  | .span low high => low.toNat ≤ serial.toNat && serial.toNat ≤ high.toNat
/-- R95. -/
def Window.hits (w : Window) (i : Identity) : Bool :=
  w.enabled && modelMatches w.model i.model && w.test.passes i.serial &&
    (match w.minfw with | none => true | some m => m ≤ i.firmware.toNat)

/-- R96: the verdict, a plan for ROUTE and none for REJECT, and its source. -/
abbrev Verdict := Option Nat × RouteSource

/-- R96: what a match decides. -/
def Window.verdict (n : Nat) (w : Window) : Verdict :=
  match w.kind with
  | .route => (some (w.plan.getD 0), .window n)
  | .exclude => (none, .window n)
def DefaultRoute.verdict : DefaultRoute → Verdict
  | .reject => (none, .default)
  | .plan p => (some p, .default)

/-- R96: the first window that matches decides. -/
def decideFrom (i : Identity) (dflt : DefaultRoute) : Nat → List (Option Window) → Verdict
  | _, [] => dflt.verdict
  | n, none :: rest => decideFrom i dflt (n + 1) rest
  | n, some w :: rest => if w.hits i then w.verdict n else decideFrom i dflt (n + 1) rest

/-- R96. A run without an identity does not reach ROUTE (R84); the default route would decide it (entry 22). -/
def decideRoute (i : Option Identity) (s : State) : Verdict :=
  match i with
  | some i => decideFrom i s.defaultRoute 0 s.windows.toList
  | none => s.defaultRoute.verdict

/-! ## Requests (R92, R98 to R103) -/

def fWindow (n : Nat) : Item := .field "WINDOW" (.num n)

/-- R92: the window is hidden from a request's level. -/
def hiddenFrom (level : Level) : Option Window → Bool
  | some w => level = .operator && w.owner = .custodian
  | none => false

/-- R101: the serial test's fields. -/
def SerialTest.items : SerialTest → List Item
  | .any => [.field "TEST" (.word "ANY")]
  | .mask b m => [.field "TEST" (.word "MASK"), .field "BASE" (.hex 8 b.toNat), .field "MASK" (.hex 8 m.toNat)]
  | .span l h => [.field "TEST" (.word "SPAN"), .field "LOW" (.hex 8 l.toNat), .field "HIGH" (.hex 8 h.toNat)]

/-- R101: a window as READ-WINDOW gives it. -/
def windowItems (n : Nat) (level : Level) (x : Option Window) : List Item :=
  match x with
  | none => [fWindow n, .field "KIND" (.word "NONE")]
  | some w =>
    if hiddenFrom level x then [fWindow n, .field "KIND" (.word "HIDDEN")]
    else
      [fWindow n, .field "OWNER" (.word w.owner.word), .field "KIND" (.word w.kind.word),
        .field "ENABLED" (yesNo w.enabled), .field "MODEL" (.raw w.model)] ++ w.test.items ++
      (match w.minfw with | some m => [.field "MINFW" (.num m)] | none => []) ++
      (match w.plan with | some p => [.field "PLAN" (.num p)] | none => [])

/-- R101. -/
def readWindow (window : Arg Nat) (level : Level) (s : State) : Answer × State :=
  window.index 16 s fun n => (.ok (windowItems n level (s.windowAt n)), s)

/-- R102, Table 5-2. -/
def windowLetter (level : Level) (x : Option Window) : Byte :=
  match x with
  | none => 0x2D
  | some w =>
    if hiddenFrom level x then 0x48
    else match w.kind, w.enabled with
      | .route, true => 0x52
      | .route, false => 0x72
      | .exclude, true => 0x58
      | .exclude, false => 0x78

/-- R102. -/
def readWindowSummary (level : Level) (s : State) : Answer × State :=
  (.ok [.field "WINDOWS" (.raw (s.windows.toList.map (windowLetter level))),
    .field "DEFAULT" s.defaultRoute.value], s)

/-- R98: the serial test that TEST and its arguments give, or none where they do not fit. -/
def WindowArgs.serialTest? (a : WindowArgs) : Option SerialTest :=
  match a.test, a.base, a.mask, a.low, a.high with
  | .val .any, .absent, .absent, .absent, .absent => some .any
  | .val .mask, .val b, .val m, .absent, .absent => some (.mask b m)
  | .val .span, .absent, .absent, .val l, .val h => some (.span l h)
  | _, _, _, _, _ => none

/-- R98, check 1: PLAN is required with ROUTE and not allowed with EXCLUDE. -/
def planArgFits (kind : WindowKind) (plan : Option Nat) : Bool :=
  match kind with
  | .route => plan.isSome
  | .exclude => plan.isNone

/-- R98, check 2. -/
def windowInRange (n : Nat) (t : SerialTest) (minfw plan : Option Nat) : Bool :=
  n < 16 && (match plan with | some p => decide (p < 16) | none => true) &&
    (match minfw with | some m => decide (m ≤ Config.word16Max) | none => true) &&
    (match t with | .span l h => decide (l.toNat ≤ h.toNat) | _ => true)

/-- R98: the owner after SET-WINDOW. -/
def windowOwner (given : Option Owner) (level : Level) (old : Option Window) : Owner :=
  match given, old, level with
  | some o, _, _ => o
  | none, some w, _ => w.owner
  | none, none, .operator => .operator
  | none, none, .custodian => .custodian

/-- R98: SET-WINDOW with KIND. -/
def setWindow (a : WindowArgs) (level : Level) (s : State) : Answer × State :=
  a.window.num 7 s fun n =>
  a.kind.need s fun kind =>
  a.model.need s fun model =>
  a.minfw.optNum 7 s fun minfw =>
  a.plan.optNum 7 s fun plan =>
  a.enabled.opt s fun enabled =>
  a.owner.opt s fun owner =>
    match a.serialTest? with
    | none => refuse .badSyntax s
    | some t =>
      if !isPattern model || !planArgFits kind plan then refuse .badSyntax s
      else if !windowInRange n t minfw plan then refuse .range s
      else if hiddenFrom level (s.windowAt n) then refuse .hidden s
      else if level = .operator && owner = some .custodian then refuse .notAuthorised s
      else
        let w : Window :=
          { enabled := enabled.getD true, owner := windowOwner owner level (s.windowAt n), kind := kind, model := model,
            test := t, minfw := minfw, plan := plan }
        (.ok (windowItems n level (some w)), s.setWindow n (some w))

/-- R99: SET-WINDOW without KIND. -/
def setWindowEnabled (window : Arg Nat) (enabled : Arg Bool) (extra : Bool) (level : Level) (s : State) :
    Answer × State :=
  window.num 8 s fun n =>
  enabled.need s fun e =>
    if extra then refuse .badSyntax s
    else below 16 n s <|
      if hiddenFrom level (s.windowAt n) then refuse .hidden s
      else match s.windowAt n with
        | none => refuse .wrongState s
        | some w =>
          let w' := { w with enabled := e }
          (.ok (windowItems n level (some w')), s.setWindow n (some w'))

/-- R100. -/
def clearWindow (window : Arg Nat) (level : Level) (s : State) : Answer × State :=
  window.index 16 s fun n =>
    if hiddenFrom level (s.windowAt n) then refuse .hidden s
    else if (s.windowAt n).isNone then refuse .wrongState s
    else (.ok [fWindow n, .field "KIND" (.word "NONE")], s.setWindow n none)

/-- R103. -/
def setDefaultRoute (route : Arg DefaultRoute) (s : State) : Answer × State :=
  route.need s fun r =>
    match r with
    | .plan p =>
      if 10 ^ 8 ≤ p then refuse .badSyntax s
      else below 16 p s (.ok [.field "DEFAULT" r.value], { s with defaultRoute := r })
    | .reject => (.ok [.field "DEFAULT" r.value], { s with defaultRoute := r })

end Sys2Proof.Machine
end

