-- ==== Sys2Proof/Machine/Runs.lean ====
section
/-! DEFINITION. Runs (chapter 6): run start, the steps, the LOAD step, run end. -/

namespace Sys2Proof.Machine

/-- How the taking of a step stands: the lane waits, the step has completed, ROUTE has completed, or the run ends with
an outcome, and with the failing step index where it is not the current step's. -/
inductive StepEnd where
  | wait
  | done
  | routed
  | fin (o : Outcome) (at_ : Option Nat)
  deriving DecidableEq, Repr

/-- An outcome that a run is to end with, and its failing step index where it is not the current step's. -/
abbrev RunStop := Outcome × Option Nat

/-! ## The current step and its delivery entry (R113) -/

def RunContext.current (c : RunContext) : Option Step := c.steps[c.step]?
/-- The place of the current LOAD step's delivery entry: the entries stand in the order of their LOAD steps. -/
def RunContext.deliveryIdx (c : RunContext) : Nat := ((c.steps.take c.step).filter fun st => st.kind.isLoad).length
def RunContext.delivery (c : RunContext) : Option Delivery := c.deliveries[c.deliveryIdx]?
/-- The current step is a LOAD step whose delivery has started and not ended. -/
def RunContext.delivering (c : RunContext) : Bool :=
  (c.current.map fun st => st.kind.isLoad) = some true && (c.delivery.map Delivery.phase) = some .delivering
def RunContext.modDelivery (c : RunContext) (f : Delivery → Delivery) : RunContext :=
  { c with deliveries := c.deliveries.modify c.deliveryIdx f }

def State.ctxAt (s : State) (n : Nat) : Option RunContext := (s.laneAt n).ctx
/-- A change of the current delivery entry, written into the OPEN record entry too (R165). -/
def State.modDelivery (s : State) (n : Nat) (f : Delivery → Delivery) : State :=
  syncOpen n (s.modCtx n fun c => c.modDelivery f)
def State.setStage (s : State) (n : Nat) (g : Stage) : State := s.modCtx n fun c => { c with stage := g }
def State.setTimer (s : State) (n : Nat) (t : Option Nat) : State := s.modLane n fun l => { l with timer := t }

/-- R116: the lane clears its line's expected reply and stops the step timer. -/
def clearAwait (n : Nat) (s : State) : State :=
  (s.setTimer n none).modLine n fun l => { l with expected := none }

/-! ## Sending (R116, R123, R137, R140) -/

/-- R12, R63, R123: delivery start, for the lane whose KEY frame begins. -/
def startDelivery (n : Nat) (s : State) : State :=
  match (s.ctxAt n).bind RunContext.delivery with
  | none => s
  | some d =>
    let s1 := deliveryStart n d.slot (s.modDelivery n fun d => { d with phase := .delivering })
    if d.tki.isSome then consume d.slot s1 else s1

/-- R140: transmit start. The receiver closes, and what it was collecting is discarded without count (R137). The lane of
the frame's run notes that it has sent, and for a KEY frame the delivery starts. -/
def transmitStart (n : Nat) (f : OutFrame) (s : State) : State :=
  let s1 := s.modLine n fun l =>
    { l with tx := .sending f l.rate l.parity (frameChars f.kind.code f.body), next := none, rx := .closed,
             gapTimer := none }
  match s1.ctxAt n with
  | none => s1
  | some c =>
    if c.ordinal ≠ f.ordinal then s1
    else
      let s2 := s1.modCtx n fun c => { c with frameSent := true }
      if f.kind = .key then startDelivery n s2 else s2

/-- R140: a frame handed to the line with the reply it expects. An idle transmitter begins it at once (entry 15); else
it waits. -/
def handFrame (n : Nat) (kind : RequestKind) (body : Text) (s : State) : State :=
  match s.ctxAt n with
  | none => s
  | some c =>
    let f : OutFrame := { ordinal := c.ordinal, kind := kind, body := body }
    let s1 := (s.setStage n .frame).modLine n fun l => { l with expected := some kind.expects }
    if (s.lineAt n).tx = .idle then transmitStart n f s1
    else s1.modLine n fun l => { l with next := some f }

/-! ## The compute phase (R122, R159, R160) -/

/-- R18, R122: a lane's request. -/
def loadRequest (c : RunContext) (derived : Bool) (d : Delivery) (op : LaneOp) : LaneRequest :=
  { ordinal := c.ordinal, op := op, step := c.step, slot := d.slot, tslot := d.tslot
    tki := if op = .derive then d.tki else none
    key := if derived && op ≠ .derive then c.heldKey else none
    header := if op = .wrap then c.header else none }

/-- R122: the lane posts an operation of its LOAD step; KEY-FAULT at the operation start ends the run. -/
def postLoad (n : Nat) (op : LaneOp) (s : State) : State × StepEnd :=
  match s.ctxAt n with
  | none => (s, .wait)
  | some c =>
    match c.current, c.delivery with
    | some st, some d =>
      match post n (.lane (loadRequest c (st.kind = .loadDerived) d op)) s with
      | (s1, .keyFault k) => (s1, .fin (.keyFault k) none)
      | (s1, _) => (s1, .wait)
    | _, _ => (s, .wait)

/-- R159: the authenticated header, from the key slot and the delivery entry as they stand when WRAP is posted. -/
def fillHeader (n : Nat) (s : State) : State :=
  match (s.ctxAt n).bind RunContext.delivery with
  | none => s
  | some d =>
    let h := match s.slotAt d.slot with
      | some k => envelopeHeader k d.pos d.tki
      | none => []
    s.modCtx n fun c => { c with header := some h }

/-- R17, R122, R123, R128, R160: a lane takes the output of its operation, whose inputs were `i`. The output of a run that
is no longer current is discarded; with the abort-pending flag set it is discarded and the run ends ABORTED. After the
hand-over the lane keeps no copy of the envelope. -/
def takeOutput (r : LaneRequest) (n : Nat) (i : CipherInput) (s : State) : State × StepEnd :=
  match s.ctxAt n with
  | none => (s, .wait)
  | some c =>
    if c.ordinal ≠ r.ordinal then (s, .wait)
    else if c.abortPending then (s, .fin (.aborted none) none)
    else match r.op with
      | .derive => postLoad n .check (s.modCtx n fun c => { c with heldKey := some i.bytes })
      | .check => postLoad n .wrap (fillHeader n (s.modDelivery n fun d => { d with cv := some i.value }))
      | .wrap =>
        (handFrame n .key (c.header.getD [] ++ i.bytes)
          (s.modCtx n fun c => { c with heldKey := none, header := none }), .wait)

/-! ## Binding for a version (R112, R121) -/

/-- R112: the delivery entries of a version, in step order, in phase RESERVED. -/
def newDeliveries (steps : List Step) (tkis : List (Nat × Tki)) : List Delivery :=
  (loadsOf steps).map fun p =>
    { pos := p.2.pos.getD 0, slot := p.2.slot.getD 0, tslot := p.2.tslot.getD 0, cv := none
      tki := (tkis.find? fun t => t.1 = p.1).map Prod.snd, phase := .reserved, reason := none }

/-- R60: what a version asks of the Issue Counter Unit. -/
def issueWants (steps : List Step) : List (Nat × Nat) :=
  ((loadsOf steps).filter fun p => p.2.kind = .loadDerived).map fun p => (p.1, p.2.slot.getD 0)

/-! ## Steps (R114 to R121) -/

/-- R115: AWAIT at its beginning. -/
def beginAwait (n : Nat) (st : Step) (s : State) : State × StepEnd :=
  if (s.lineAt n).presence && !(s.lineAt n).served then (s, .done)
  else
    let limit := st.limit.getD 0
    ((s.setStage n .awaiting).setTimer n (if limit = 0 then none else some limit), .wait)

/-- R112, R121, R165: the Key Store's and the Issue Counter Unit's requests for a version. The granted binding adds the
version's delivery entries to `old`, in phase RESERVED; the granted reservation writes each TKI into its entry. -/
def bindKeys (n : Nat) (steps : List Step) (old : List Delivery) (s : State) : State × Option (BindReason × Nat) :=
  match bindSlots n (loadsOf steps) s with
  | .error e => (s, some e)
  | .ok s1 =>
    let s2 := syncOpen n (s1.modCtx n fun c => { c with deliveries := old ++ newDeliveries steps [] })
    match reserveIssue (issueWants steps) s2 with
    | .error e => (s2, some e)
    | .ok (tkis, s3) =>
      (syncOpen n (s3.modCtx n fun c => { c with deliveries := old ++ newDeliveries steps tkis }), none)

/-- R121: ROUTE, in its four requests. A KEY-UNAVAILABLE run holds the routed version it had bound, so that its record
and its release name it (R163). -/
def routeStep (n : Nat) (c : RunContext) (s : State) : State × StepEnd :=
  match decideRoute c.identity s with
  | (none, src) => (s, .fin (.rejectedRoute src) none)
  | (some p, _) =>
    match bindVersion n p true s with
    | .noPlan => (s, .fin (.routeFailed false) none)
    | .routes => (s, .fin (.routeFailed true) none)
    | .ok v s1 =>
      let s2 := s1.modCtx n fun c => { c with routed := some (p, v.number) }
      match bindKeys n v.steps c.deliveries s2 with
      | (s3, some (r, i)) => (s3, .fin (.keyUnavailable r) (some i))
      | (s3, none) => (s3.modCtx n fun c => { c with following := .routed, steps := v.steps, step := 0 }, .routed)

/-- R114 to R122, R125: the current step begins. -/
def beginStep (n : Nat) (s0 : State) : State × StepEnd :=
  let s := s0.modCtx n fun c => { c with waits := 0 }
  match s.ctxAt n with
  | none => (s, .wait)
  | some c =>
    match c.current with
    | none => (s, .fin .complete none)
    | some st =>
      match st.kind with
      | .await => beginAwait n st s
      | .pause => ((s.setStage n .pausing).setTimer n (some (st.duration.getD 0)), .wait)
      | .route => routeStep n c s
      | .loadDerived => postLoad n .derive (s.setStage n .compute)
      | .loadDirect => postLoad n .check (s.setStage n .compute)
      | .hail | .identify | .verify | .tag | .seal => (handFrame n st.kind.request (requestBody st) s, .wait)

/-- R114: after a completed step: ABORTED if the abort-pending flag is set, COMPLETE if no step follows, else the next
step's index. -/
def nextStep (n : Nat) (s : State) : State × Option RunStop :=
  match s.ctxAt n with
  | none => (s, none)
  | some c =>
    if c.abortPending then (s, some (.aborted none, none))
    else if c.step + 1 < c.steps.length then (s.modCtx n fun c => { c with step := c.step + 1 }, none)
    else (s, some (.complete, none))

/-- R114: the run goes on from what its step came to, until it waits or is to end. A run takes at most 24 steps of each
of two versions at one event. -/
def proceed : Nat → Nat → State × StepEnd → State × Option RunStop
  | 0, _, (s, _) => (s, none)
  | _ + 1, _, (s, .wait) => (s, none)
  | _ + 1, _, (s, .fin o k) => (s, some (o, k))
  | fuel + 1, n, (s, .routed) =>
    if ((s.ctxAt n).map RunContext.abortPending) = some true then (s, some (.aborted none, none))
    else proceed fuel n (beginStep n s)
  | fuel + 1, n, (s, .done) =>
    match nextStep n (clearAwait n s) with
    | (s1, some stop) => (s1, some stop)
    | (s1, none) => if (s1.ctxAt n).isNone then (s1, none) else proceed fuel n (beginStep n s1)

/-- The steps that two versions can hold, with ROUTE's turn and the end's. -/
def stepFuel : Nat := 2 * Config.stepsMax + 2

/-! ## Run start (R110 to R112) -/

/-- R110: the LANE-HELD notice. -/
def laneHeld (n : Nat) (q : RunRequest) : Line :=
  [.word "!", .word "LANE-HELD", fLane n, .field "TAG" (.num q.tag), fPlan q.plan]

/-- R110, R164: no place is free. LANE-HELD is sent on entry to HELD alone. -/
def holdLane (n : Nat) (q : RunRequest) (s : State) : State :=
  let s1 := s.modLane n fun l => { l with state := .held }
  refuseRecord n (if (s.laneAt n).state = .held then s1 else raiseNotice (laneHeld n q) s1)

/-- R111: the OPEN entry of a new run. -/
def openRecord (n : Nat) (q : RunRequest) (ordinal : BitVec 16) : Record :=
  { closed := false, lane := n, ordinal := ordinal, tag := q.tag, iteration := q.iteration, plan := q.plan
    version := none, routed := none, outcome := none, failStep := none, identity := none, deliveries := []
    voided := [], notes := [] }

/-- R111, R113: the context of a new run. -/
def newContext (q : RunRequest) (ordinal : BitVec 16) : RunContext :=
  { ordinal := ordinal, plan := q.plan, version := none, steps := [], routed := none, following := .start, step := 0
    stage := .awaiting, identity := none, deliveries := [], frameSent := false, waits := 0, abortPending := false
    notes := [], heldKey := none, header := none }

/-- R111: the lane takes its place, its ordinal and its context. -/
def openRun (n : Nat) (q : RunRequest) (s : State) : State :=
  let ordinal := (s.laneAt n).ordinal + 1
  (addRecord (openRecord n q ordinal) s).modLane n fun l =>
    { l with state := .running, ordinal := ordinal, ctx := some (newContext q ordinal), timer := none }

/-- R111, R112: the version, the bindings and the issue numbers of a new run, and its steps from step 0. -/
def startRun (n : Nat) (q : RunRequest) (s0 : State) : State × Option RunStop :=
  let s := openRun n q s0
  match bindVersion n q.plan false s with
  | .noPlan | .routes => (s, some (.notStarted .noPlan, none))
  | .ok v s1 =>
    let s2 := syncOpen n (s1.modCtx n fun c => { c with version := some v.number, steps := v.steps })
    match bindKeys n v.steps [] s2 with
    | (s3, some (r, i)) => (s3, some (.notStarted r, some i))
    | (s3, none) => proceed stepFuel n (beginStep n s3)

/-- R110: run start. -/
def runStart (n : Nat) (s : State) : State × Option RunStop :=
  match (s.laneAt n).queue with
  | [] => (s, none)
  | q :: _ => if placeFree s then startRun n q s else (holdLane n q s, none)

/-! ## Run end (R129 to R131) -/

/-- R131: the iteration of a kept request. -/
def nextIteration (q : RunRequest) : Nat :=
  if q.rep = 0 && Config.word16Max ≤ q.iteration then 1 else q.iteration + 1

/-- R131, R132: what is left of the queue. -/
def queueAfter (o : Outcome) (abortPending : Bool) : List RunRequest → List RunRequest
  | [] => []
  | q :: rest =>
    if o = .tamper then []
    else if (q.rep = 0 || q.iteration < q.rep) && o.repeats && !abortPending && rest.isEmpty then
      [{ q with iteration := nextIteration q }]
    else rest

/-- R129 step 7: the RUN-END notice. -/
def runEndLine (n : Nat) (q : Option RunRequest) (c : RunContext) (o : Outcome) : Line :=
  [.word "!", .word "RUN-END", fLane n, .field "TAG" (.num ((q.map RunRequest.tag).getD 0)), fOrdinal c.ordinal,
    .field "ITERATION" (.num ((q.map RunRequest.iteration).getD 0)), .field "OUTCOME" (.raw o.text)]

/-- R163: the failing step index of an outcome. -/
def failStepOf (o : Outcome) (at_ : Option Nat) (c : RunContext) : Option Nat :=
  if o.hasFailStep then some (at_.getD c.step) else none

/-- R129 step 1: stop. The waiting frame of the run is discarded unsent (R140). -/
def stopRun (n : Nat) (s : State) : State :=
  withdraw n (((clearAwait n s).modCtx n fun c => { c with heldKey := none, header := none }).modLine n fun l =>
    { l with next := none })

/-- R129 step 5: the versions that the run bound. -/
def releaseVersions (n : Nat) (c : RunContext) (s : State) : State :=
  let s1 := match c.version with
    | some v => releaseVersion n c.plan v s
    | none => s
  match c.routed with
  | some (p, v) => releaseVersion n p v s1
  | none => s1

/-- R129 step 6, R130. -/
def markServed (n : Nat) (c : RunContext) (s : State) : State :=
  s.modLine n fun l => if c.frameSent && l.presence then { l with served := true } else l

/-- R129: run end, steps 1 to 8. The lane is IDLE after it, until run start follows. -/
def runEnd (n : Nat) (stop : RunStop) (s : State) : State :=
  match s.ctxAt n with
  | none => s
  | some c =>
    let s1 := stopRun n s
    let (voided, s2) := returnAll c.deliveries s1
    let s3 := releaseLane n s2
    let s4 := closeRecord n stop.1 (failStepOf stop.1 stop.2 c) voided (syncOpen n s3)
    let s5 := markServed n c (releaseVersions n c s4)
    let s6 := raiseNotice (runEndLine n (s.laneAt n).queue.head? c stop.1) s5
    s6.modLane n fun l =>
      { l with queue := queueAfter stop.1 c.abortPending l.queue, ctx := none, state := .idle }

/-- R129, R110: a run that is to end ends; if a head remains, run start follows, and so on. Each run start takes a place
of the Record Queue, so at most 49 runs end at one event. -/
def settleRun : Nat → Nat → State × Option RunStop → State
  | 0, _, (s, _) => s
  | _ + 1, _, (s, none) => s
  | fuel + 1, n, (s, some stop) => settleRun fuel n (runStart n (runEnd n stop s))

def runFuel : Nat := Config.recordPlaces + 1

/-- The run goes on from what its step came to. -/
def goOn (n : Nat) (r : State × StepEnd) : State := settleRun runFuel n (proceed stepFuel n r)
/-- The run ends with an outcome. -/
def endRun (n : Nat) (o : Outcome) (s : State) : State := settleRun runFuel n (s, some (o, none))
/-- R110: run start, and what follows at the same event. -/
def startAt (n : Nat) (s : State) : State := settleRun runFuel n (runStart n s)

/-! ## Delivery end (R124) -/

/-- R124: the current delivery, if it has started, ends in a phase. -/
def endDelivery (n : Nat) (phase : DeliveryPhase) (reason : Option Refuse) (s : State) : State :=
  match s.ctxAt n with
  | none => s
  | some c =>
    if c.delivering then s.modDelivery n fun d => { d with phase := phase, reason := reason } else s

/-- R116, R124: a frame step fails. A delivery ends in its phase, and under a pending abort Table 6-5 gives the
outcome. -/
def failFrame (n : Nat) (o : Outcome) (phase : DeliveryPhase) (reason : Option Refuse) (s : State) :
    State × StepEnd :=
  match s.ctxAt n with
  | none => (s, .wait)
  | some c =>
    (endDelivery n phase reason (clearAwait n s), .fin (if c.delivering && c.abortPending then o.underAbort else o) none)

/-- R120: a note, in the context and in the OPEN entry; the step is as if completed. A run that notes failures on both
sides of ROUTE can come to more than the 24 notes of Table 6-4; every note is kept (entry 28). -/
def noteStep (n : Nat) (k : NoteKind) (s : State) : State × StepEnd :=
  (syncOpen n (s.modCtx n fun c => { c with notes := c.notes ++ [{ step := c.step, kind := k }] }), .done)

/-! ## Replies (R116 to R120, R124) -/

/-- R118: WAIT. -/
def takeWait (n : Nat) (c : RunContext) (st : Step) (s : State) : State × StepEnd :=
  if c.waits < 3 then
    ((s.modCtx n fun c => { c with waits := c.waits + 1 }).setTimer n (some st.timeoutMs), .wait)
  else failFrame n .terminalStalled .unanswered none s

/-- R119, R124: ACCEPT. -/
def takeAccept (n : Nat) (c : RunContext) (pos : Nat) (cv : CheckValue) (s : State) : State × StepEnd :=
  match c.delivery with
  | none => failFrame n .protocol .unanswered none s
  | some d =>
    if d.pos ≠ pos then failFrame n .protocol .unanswered none s
    else if d.cv = some cv then (endDelivery n .accepted none s, .done)
    else failFrame n (.checkMismatch d.pos) .accepted none s

/-- R119, R120: CHECK at VERIFY. -/
def takeCheck (n : Nat) (c : RunContext) (st : Step) (pos : Nat) (cv : CheckValue) (s : State) : State × StepEnd :=
  if st.pos ≠ some pos then failFrame n .protocol .unanswered none s
  else if ((c.deliveries.find? fun d => d.pos = pos).bind Delivery.cv) = some cv then (s, .done)
  else if st.continues then noteStep n .checkMismatch s
  else failFrame n (.checkMismatch pos) .unanswered none s

/-- R116: a reply handed to the lane at a frame step. -/
def takeReply (n : Nat) (r : BenchReply) (s : State) : State × StepEnd :=
  match s.ctxAt n with
  | none => (s, .wait)
  | some c =>
    match c.current with
    | none => (s, .wait)
    | some st =>
      match r, st.kind with
      | .wait, _ => takeWait n c st s
      | .refuse why, _ => failFrame n (.terminalRefused why) .refused (some why) s
      | .ready, .hail => (s, .done)
      | .done, .tag => (s, .done)
      | .done, .seal => (s, .done)
      | .ident i, .identify => (syncOpen n (s.modCtx n fun c => { c with identity := some i }), .done)
      | .accept p v, .loadDirect => takeAccept n c p v s
      | .accept p v, .loadDerived => takeAccept n c p v s
      | .check p v, .verify => takeCheck n c st p v s
      | _, _ => failFrame n .protocol .unanswered none s

/-! ## The step timer, arrival, removal, abort, tamper (R115, R117, R125 to R128, R132) -/

/-- R117, R120, R124, R125: the step timer expires. -/
def timerExpiry (n : Nat) (s : State) : State :=
  match (s.laneAt n).timer, s.ctxAt n with
  | some _, some c =>
    let s1 := clearAwait n s
    match c.stage with
    | .awaiting => goOn n (s1, .fin .timeout none)
    | .pausing => goOn n (s1, .done)
    | .compute => s
    | .frame =>
      if (c.current.map Step.continues) = some true then goOn n (noteStep n .timeout s1)
      else goOn n (failFrame n .timeout .unanswered none s1)
  | _, _ => s

/-- R115: TERMINAL-ARRIVED. -/
def terminalArrived (n : Nat) (s : State) : State :=
  match s.ctxAt n with
  | none => s
  | some c => if c.stage = .awaiting && !(s.lineAt n).served then goOn n (s, .done) else s

/-- R124, R126, R139: TERMINAL-REMOVED. -/
def terminalRemoved (n : Nat) (s : State) : State :=
  let s1 := s.modLine n fun l => { l with served := false }
  match s1.ctxAt n with
  | none => s1
  | some c => if c.stage = .awaiting then s1 else endRun n .removed (endDelivery n .unanswered none s1)

/-- R128: an abort ends the run at once where the run stands at a safe point, withdrawing a waiting request. -/
def atSafePoint (n : Nat) (c : RunContext) (s : State) : Bool :=
  match c.stage with
  | .awaiting | .pausing => true
  | .frame => !c.delivering
  | .compute => isWaiting n s

/-- R127, R128: an abort on a RUNNING lane; the answer is the RUN field. -/
def abortRun (n : Nat) (s : State) : String × State :=
  match s.ctxAt n with
  | none => ("NONE", s)
  | some c =>
    if !c.abortPending && atSafePoint n c s then ("ABORTED", endRun n (.aborted none) s)
    else ("ABORTING", s.modCtx n fun c => { c with abortPending := true })

/-- R132, R170: a tamper event at a lane. -/
def tamperLane (n : Nat) (s : State) : State :=
  match (s.laneAt n).state with
  | .running => runEnd n (.tamper, none) (endDelivery n .unanswered none s)
  | .held => (leaveWaiting n s).modLane n fun l => { l with state := .idle, queue := [] }
  | .idle | .offline => s

end Sys2Proof.Machine
end

