-- ==== Sys2Proof/Machine/BenchLines.lean ====
section
/-! DEFINITION. The bench lines (chapter 7): transmit end, the receiver, the counters, the cradle contact. -/

namespace Sys2Proof.Machine

/-! ## Transmit start and end as events (R137, R140) -/

/-- R140: a line whose transmitter is idle begins the frame that waits. -/
def beginWaiting (n : Nat) (s : State) : State :=
  match (s.lineAt n).tx, (s.lineAt n).next with
  | .idle, some f => transmitStart n f s
  | _, _ => s

/-- R117: the step timer is loaded at the transmit end of the current step's frame. -/
def loadStepTimer (n : Nat) (f : OutFrame) (s : State) : State :=
  match s.ctxAt n with
  | none => s
  | some c =>
    if c.ordinal = f.ordinal && c.stage = .frame then s.setTimer n (c.current.map Step.timeoutMs) else s

/-- R137, R140: the last character has gone out: the transmitter is idle, the receiver opens in HUNTING unless the lane
is OFFLINE, the step timer is loaded, and a waiting frame begins. -/
def transmitEnd (n : Nat) (s : State) : State :=
  match (s.lineAt n).tx with
  | .idle => s
  | .sending f _ _ _ =>
    let open_ := (s.laneAt n).state ≠ .offline
    let s1 := s.modLine n fun l => { l with tx := .idle, rx := if open_ then .hunting else .closed }
    beginWaiting n (loadStepTimer n f s1)

/-! ## Receiving (R136, R141 to R143) -/

/-- R143: a counter rises by 1 and saturates. -/
def bump (n : Nat) : Nat := min Config.word16Max (n + 1)

/-- R141: the receiver hunts; nothing is being collected. -/
def BenchLine.hunt (l : BenchLine) : BenchLine := { l with rx := .hunting, gapTimer := none }
/-- R141: a frame is dropped and counted. -/
def BenchLine.drop (l : BenchLine) : BenchLine := { l.hunt with checkErr := bump l.checkErr }
/-- The receiver is open (R137). -/
def BenchLine.isOpen (l : BenchLine) : Bool := l.rx ≠ .closed

/-- R141: the bad-frame flag is set or the frame check does not agree. -/
def frameBad (kind : Byte) (body : Text) (check : BitVec 16) (bad : Bool) : Bool :=
  bad || check ≠ frameCheck kind body

/-- R141, R142: a frame's last character has arrived at an open receiver. -/
def frameArrived (n : Nat) (kind : Byte) (body : Text) (check : BitVec 16) (bad : Bool) (s : State) : State :=
  if frameBad kind body check bad then s.modLine n BenchLine.drop
  else if (s.lineAt n).expected.isNone then
    s.modLine n fun l => { l.hunt with unsolicited := bump l.unsolicited }
  else goOn n (takeReply n (decodeReply kind body) (s.modLine n BenchLine.hunt))

/-- R141: a header that announces more than 200 bytes, in the place of the characters collected so far (entry 8). -/
def overlongHeader (n : Nat) (s : State) : State :=
  if (s.lineAt n).isOpen then s.modLine n BenchLine.drop else s

/-- R142: a whole frame, as its last character arrives. Given as one row while the receiver is COLLECTING, it stands in the
place of the characters collected, and its own `bad` in the place of their flag (entry 8). -/
def benchFrame (n : Nat) (kind : Byte) (body : Text) (check : BitVec 16) (bad : Bool) (s : State) : State :=
  if !(s.lineAt n).isOpen then s
  else if Config.bodyMax < body.length then overlongHeader n s
  else frameArrived n kind body check bad s

/-- R141: the frame is whole when the length that its header announces has arrived. -/
def frameWhole (chars : Text) : Bool := 3 ≤ chars.length && 5 + (chars.getD 2 0).toNat ≤ chars.length
/-- R151: the parts of a whole frame. -/
def frameKind (chars : Text) : Byte := chars.getD 1 0
def frameBody (chars : Text) : Text := (chars.drop 3).take (chars.getD 2 0).toNat
def frameSum (chars : Text) : BitVec 16 :=
  BitVec.ofNat 16 (beNum (chars.drop (3 + (chars.getD 2 0).toNat)))

/-- R141: a character is added to the frame being collected. -/
def collectChar (n : Nat) (chars : Text) (bad : Bool) (rate : Rate) (parity : Parity) (c : Byte) (err : Bool)
    (s : State) : State :=
  let chars' := chars ++ [c]
  let bad' := bad || err
  if chars'.length = 3 && Config.bodyMax < c.toNat then overlongHeader n s
  else if frameWhole chars' then frameArrived n (frameKind chars') (frameBody chars') (frameSum chars') bad' s
  else s.modLine n fun l => { l with rx := .collecting chars' bad' rate parity, gapTimer := some Config.gapMs }

/-- R136, R141: a character arrives. A closed receiver takes none (R137). -/
def benchCharacter (n : Nat) (c : Byte) (parityIn stopIn : Bool) (s : State) : State :=
  let l := s.lineAt n
  match l.rx with
  | .closed => s
  | .hunting =>
    if !charError l.parity c parityIn stopIn && c = startChar then
      s.modLine n fun l => { l with rx := .collecting [c] false l.rate l.parity, gapTimer := some Config.gapMs }
    else s
  | .collecting chars bad r p => collectChar n chars bad r p c (charError p c parityIn stopIn) s

/-- R141: the gap timer expires. -/
def gapExpiry (n : Nat) (s : State) : State :=
  match (s.lineAt n).rx, (s.lineAt n).gapTimer with
  | .collecting _ _ _ _, some _ => s.modLine n BenchLine.drop
  | _, _ => s

/-! ## The cradle (R138) -/

/-- R138: the settle that a level of the contact asks for. -/
def settleFor (contact presence : Bool) : Option Nat := if contact = presence then none else some Config.settleMs

/-- R138: the contact changes level. While the lines are not up (supply off, start-up) the level is all that changes
(entry 23). -/
def contactChange (n : Nat) (closed : Bool) (s : State) : State :=
  if (s.lineAt n).contact = closed then s
  else if !s.power || s.startUp.isSome then s.modLine n fun l => { l with contact := closed }
  else s.modLine n fun l => { l with contact := closed, settle := settleFor closed l.presence }

/-- R138: the settle timer expires: presence follows the contact, and the lane is given the event. -/
def settleExpiry (n : Nat) (s : State) : State :=
  match (s.lineAt n).settle with
  | none => s
  | some _ =>
    let here := (s.lineAt n).contact
    let s1 := s.modLine n fun l => { l with settle := none, presence := here }
    if here then terminalArrived n s1 else terminalRemoved n s1

/-! ## A tamper event at a line (R140, R149) -/

/-- R140: sending stops, a waiting frame is discarded, and a receiver that was CLOSED for sending opens in HUNTING unless
the lane is OFFLINE. -/
def tamperLine (n : Nat) (s : State) : State :=
  let open_ := (s.laneAt n).state ≠ .offline
  s.modLine n fun l =>
    match l.tx with
    | .idle => { l with next := none }
    | .sending _ _ _ _ => { l with tx := .idle, next := none, rx := if open_ then .hunting else l.rx }

end Sys2Proof.Machine
end

