-- ==== Sys2Proof/Machine/Custodians.lean ====
section
/-! DEFINITION. The Authorisation Unit and the Component Assembler (chapter 2): roster, sessions, the authorisation
state, assemblies, and the panel's commands. -/

namespace Sys2Proof.Machine

/-! ## Panel answers (R31) -/

/-- The answer to a panel line. -/
inductive PanelAnswer where
  | ok (items : List Item)
  | err (e : PanelErr)
  deriving DecidableEq, Repr

def PanelAnswer.line : PanelAnswer → Line
  | .ok items => .word "OK" :: items
  | .err e => [.word "ERR", .word e.word]

def panelRefuse (e : PanelErr) (s : State) : PanelAnswer × State := (.err e, s)

/-- R31, R38: a panel line is handled: its reply stands before the messages raised at the event, and a line answered OK
restarts the dual window timer. -/
def panelServe (h : State → PanelAnswer × State) (s : State) : State :=
  let before := s.panel.out.length
  let (a, s1) := h s
  let s2 := match a with
    | .ok _ => restartDual s1
    | .err _ => s1
  { s2 with panel := { s2.panel with
      out := s2.panel.out.take before ++ [{ isReply := true, line := a.line }] ++ s2.panel.out.drop before } }

def fId (n : Nat) : Item := .field "ID" (.num n)

/-- The assembly record. -/
def State.setAsm (s : State) (r : Option Assembly) : State := { s with asm := { s.asm with record := r } }

/-! ## The assembly's end (R48 to R50) -/

/-- The ASSEMBLY notice and message. -/
def assemblyLine (slot : Nat) (rest : List Item) : Line := [.word "ASSEMBLY", fSlot slot] ++ rest

/-- R50: the open assembly is cancelled: a waiting request is withdrawn, the record closes, its slot becomes EMPTY, and
the notice and message name the cause. -/
def cancelAssembly (cause : String) (s : State) : State :=
  match s.asm.record with
  | none => s
  | some a =>
    let s1 := withdraw reqAssembler s
    let s2 := (s1.emptySlot a.slot).setAsm none
    raiseBoth (assemblyLine a.slot [.field "RESULT" (.word "CANCELLED"), .field "CAUSE" (.word cause)]) s2

/-- R49: the held component of a custodian whose session ends is discarded. Its CHECK is withdrawn if it waits; if it
executes, its output is dropped when it comes. -/
def discardHeld (id : Nat) (s : State) : State :=
  match s.asm.record with
  | none => s
  | some a =>
    match a.held with
    | none => s
    | some h =>
      if h.id ≠ id then s
      else
        let s1 := if a.phase = .checking then withdraw reqAssembler s else s
        let s2 := if a.phase = .checking && !isWaiting reqAssembler s then
            { s1 with cipher := { s1.cipher with executing := s1.cipher.executing.map fun e =>
                if e.requester = reqAssembler then { e with dropped := true } else e } }
          else s1
        raiseMessage [.word "DISCARDED", fId id]
          (s2.setAsm (some { a with held := none, phase := .collecting }))

/-! ## The authorisation state (R37) -/

/-- The groups of the sessions. -/
def sessionGroups (s : State) : List (Option Group) :=
  s.auth.sessions.map fun id => (s.custodianAt id).map Custodian.group

/-- The AUTH notice and message, less the notice's cause. -/
def authItems (s : State) : List Item :=
  [.word "AUTH", fState s.auth.state.word, .field "IDS" (ids s.auth.sessions)]

/-- R37, R38, R50: the authorisation state is derived again. A change is reported, starts or stops the dual window
timer, and at NONE cancels the open assembly. -/
def rederive (cause : String) (s : State) : State :=
  let new := authOf (sessionGroups s)
  if new = s.auth.state then s
  else
    let s1 := { s with auth := { s.auth with
      state := new
      dualTimer := if new = .dual then some s.auth.dualWindow else none } }
    let s2 := raiseMessage (authItems s1)
      (raiseNotice ((.word "!" :: authItems s1) ++ [.field "CAUSE" (.word cause)]) s1)
    if new = .none then cancelAssembly "AUTH" s2 else s2

/-- R35, R38: a session ends, and its custodian's held component is discarded. -/
def dropSession (id : Nat) (s : State) : State :=
  discardHeld id { s with auth := { s.auth with sessions := s.auth.sessions.filter (· ≠ id) } }

/-- R38: the dual window expires: both sessions end. -/
def dualExpiry (s : State) : State :=
  match s.auth.dualTimer with
  | none => s
  | some _ => rederive "EXPIRY" (s.auth.sessions.foldl (fun t id => dropSession id t) s)

/-! ## Requests on the roster (R28 to R30, R40) -/

/-- R28: the roster holds an ENROLLED entry of the group. -/
def groupEnrolled (g : Group) (s : State) : Bool :=
  s.auth.roster.toList.any fun e => match e with
    | some c => c.group = g && c.state = .enrolled
    | none => false

/-- R28, R176: the level at which ENROL-CUSTODIAN is admitted. -/
def enrolLevel (group : Arg Group) (s : State) : Level :=
  match group with
  | .val g => if groupEnrolled g s then .custodian else .operator
  | _ => .custodian

/-- R28. In DUAL every admitted ENROL-CUSTODIAN restarts the dual window timer (R38, R39). The refusals come in R28's order:
an ID out of range is RANGE also where GROUP is missing, of which R176 says BAD-SYNTAX (entry 10). -/
def enrolCustodian (id : Arg Nat) (group : Arg Group) (label : Arg Text) (s0 : State) : Answer × State :=
  let s := restartDual s0
  id.num 8 s fun n =>
    if n = 0 || 12 < n then refuse .range s
    else group.need s fun g =>
      label.opt s fun l =>
        let text := l.getD []
        if !fitsText 12 text then refuse .badSyntax s
        else match s.custodianAt n with
          | some _ => refuse .wrongState s
          | none =>
            (.ok [fId n, fState "PENDING", .field "GROUP" (.word g.word), .field "LABEL" (.label text)],
              s.setCustodian n
                (some { state := .pending, group := g, label := text, verifier := none, failed := 0 }))

/-- R29. -/
def removeCustodian (id : Arg Nat) (s : State) : Answer × State :=
  id.num 8 s fun n =>
    if n = 0 || 12 < n then refuse .range s
    else match s.custodianAt n with
      | none => refuse .wrongState s
      | some _ =>
        if s.auth.sessions.contains n then refuse .inUse s
        else (.ok [fId n, fState "EMPTY"], s.setCustodian n none)

/-- R27: an entry enters PENDING: the verifier is erased and the failed-logon count is 0. -/
def Custodian.toPending (c : Custodian) : Custodian := { c with state := .pending, verifier := none, failed := 0 }

/-- R30. -/
def unlockCustodian (id : Arg Nat) (s : State) : Answer × State :=
  id.num 8 s fun n =>
    if n = 0 || 12 < n then refuse .range s
    else match s.custodianAt n with
      | none => refuse .wrongState s
      | some c =>
        if c.state = .locked then (.ok [fId n, fState "PENDING"], s.setCustodian n (some c.toPending))
        else refuse .wrongState s

/-- R40: clamped; the timer started by its admission runs from the new value. -/
def setDualWindow (seconds : Arg Nat) (s : State) : Answer × State :=
  seconds.num 8 s fun v =>
    let t := clamp Config.dualWindowMin Config.dualWindowMax v
    (.ok [.field "SECONDS" (.num t)], restartDual { s with auth := { s.auth with dualWindow := t } })

/-- R43. -/
def setParityPolicy (policy : Arg Policy) (s : State) : Answer × State :=
  policy.need s fun p =>
    (.ok [.field "POLICY" (.word p.word)], { s with asm := { s.asm with policy := p } })

/-! ## Opening and cancelling an assembly (R42, R51) -/

/-- R42: the values of the arguments are in range: the first check, less the forms. -/
def assembleRange (slot len parts kver : Nat) (family : Family) (budget : Option Budget) : Bool :=
  slot < 64 && (algPair? family len).isSome && (parts = 2 || parts = 3) && kver ≤ 255 &&
    (match budget with | some (.count m) => decide (m ≤ Config.budgetMax) | _ => true)

/-- R42: ASSEMBLE-BEGIN, forms and missing arguments before ranges (entry 10). -/
def assembleBegin (a : AssembleArgs) (s : State) : Answer × State :=
  a.slot.num 8 s fun slot =>
  a.cls.need s fun cls =>
  a.family.need s fun family =>
  a.len.num 8 s fun len =>
  a.parts.num 8 s fun parts =>
  a.cv.opt s fun cv =>
  a.label.opt s fun label =>
  a.kver.optNum 8 s fun kver =>
  a.budget.opt s fun budget =>
    let huge := match budget with | some (.count m) => decide (10 ^ 8 ≤ m) | _ => false
    if huge || (cls = .transport && budget.isSome) || (cls ≠ .transport && budget.isNone)
        || !fitsText 16 (label.getD []) then refuse .badSyntax s
    else if !assembleRange slot len parts (kver.getD 0) family budget then refuse .range s
    else match algPair? family len with
      | none => refuse .range s
      | some alg =>
        if s.latch then refuse .tampered s
        else if s.asm.record.isSome then refuse .busy s
        else if (s.slotAt slot).isSome then refuse .wrongState s
        else
          let number := s.asm.count + 1
          let s1 := s.setSlot slot (some
            { state := .assembling, cls := cls, alg := alg, label := label.getD [], kver := kver.getD 0,
              allowance := budget.map fun b => { budget := b, reserved := 0 }, bound := [], material := none })
          (.ok [fSlot slot, fState "ASSEMBLING", .field "PARTS" (.num parts)],
            { s1 with asm := { s1.asm with
                count := number
                record := some
                  { slot := slot, parts := parts, expected := cv, alg := alg, done := [],
                    acc := List.replicate alg.keyLen 0, held := none, phase := .collecting, number := number,
                    finished := none, finishedCv := none } } })

/-- R51. -/
def assembleCancel (s : State) : Answer × State :=
  match s.asm.record with
  | none => refuse .wrongState s
  | some a => (.ok [fSlot a.slot, fState "EMPTY"], cancelAssembly "REQUEST" s)

/-! ## The panel's commands (R33 to R36, R44, R46) -/

/-- R31, R33: a passcode is 6 to 12 decimal digits. -/
def isPasscode (t : Text) : Bool := 6 ≤ t.length && t.length ≤ 12 && t.all isDigit

/-- R33. -/
def newcode (id : Nat) (code again : Text) (s : State) : PanelAnswer × State :=
  if id = 0 || 12 < id || !isPasscode code || !isPasscode again then panelRefuse .range s
  else match s.custodianAt id with
    | none => panelRefuse .wrongState s
    | some c =>
      if c.state ≠ .pending then panelRefuse .wrongState s
      else if code ≠ again then panelRefuse .mismatch s
      else (.ok [.word "NEWCODE", fId id, fState "ENROLLED"],
        s.setCustodian id (some { c with state := .enrolled, verifier := some ⟨code⟩, failed := 0 }))

/-- R34, check 5: a wrong passcode counts, and the third locks the entry. -/
def wrongPasscode (id : Nat) (c : Custodian) (s : State) : PanelAnswer × State :=
  if c.failed + 1 < 3 then
    (.err .denied, s.setCustodian id (some { c with failed := c.failed + 1 }))
  else
    (.err .locked, s.setCustodian id (some { c with failed := c.failed + 1, state := .locked }))

/-- R34: a session for the custodian is added, and the authorisation state is derived again. -/
def openSession (id : Nat) (c : Custodian) (s : State) : PanelAnswer × State :=
  let s1 := s.setCustodian id (some { c with failed := 0 })
  let s2 := rederive "LOGON" { s1 with auth := { s1.auth with sessions := insertAsc id s1.auth.sessions } }
  (.ok [.word "LOGON", fId id, .field "LABEL" (.label c.label), .field "AUTH" (.word s2.auth.state.word)], s2)

/-- R34: the checks in order. -/
def logon (id : Nat) (code : Text) (s : State) : PanelAnswer × State :=
  if id = 0 || 12 < id || !isPasscode code then panelRefuse .range s
  else match s.custodianAt id with
    | none => panelRefuse .notEnrolled s
    | some c => match c.state with
      | .pending => panelRefuse .notEnrolled s
      | .locked => panelRefuse .locked s
      | .enrolled =>
        if s.auth.sessions.contains id then panelRefuse .already s
        else if 2 ≤ s.auth.sessions.length then panelRefuse .panelFull s
        else if c.verifier = some ⟨code⟩ then openSession id c s
        else wrongPasscode id c s

/-- R35. -/
def logoff (id : Nat) (s : State) : PanelAnswer × State :=
  if id = 0 || 12 < id then panelRefuse .range s
  else if !s.auth.sessions.contains id then panelRefuse .notLoggedOn s
  else
    let s1 := rederive "LOGOFF" (dropSession id s)
    (.ok [.word "LOGOFF", fId id, .field "AUTH" (.word s1.auth.state.word)], s1)

/-- R36. -/
def showPanel (s : State) : PanelAnswer × State :=
  (.ok ([.word "SHOW", .field "AUTH" (.word s.auth.state.word), .field "IDS" (ids s.auth.sessions)] ++
    (match s.asm.record with
      | none => [.field "ASSEMBLY" (.word "NONE")]
      | some a =>
        [.field "ASSEMBLY" (.num a.slot), .field "PARTS" (.num a.parts), .field "DONE" (ids (a.done.map Prod.fst)),
         .field "HELD" (match a.held with | some h => .num h.id | none => .word "NONE")])), s)

/-- R44: the checks in order; a component that passes them is held, and its CHECK is posted. -/
def component (id : Nat) (key : Text) (s : State) : PanelAnswer × State :=
  match s.asm.record with
  | none => panelRefuse .noAssembly s
  | some a =>
    if a.phase = .finishingCheck || a.phase = .finishingTag then panelRefuse .busy s
    else if s.auth.state ≠ .dual then panelRefuse .notAuthorised s
    else if !s.auth.sessions.contains id then panelRefuse .notLoggedOn s
    else if a.held.isSome then panelRefuse .pending s
    else if (a.done.map Prod.fst).contains id then panelRefuse .contributed s
    else if key.length ≠ a.alg.keyLen then panelRefuse .length s
    else if a.alg.family = .block64 && s.asm.policy = .strict && !key.all isOdd then panelRefuse .parity s
    else
      let s1 := s.setAsm (some { a with held := some { id := id, bytes := key, cv := none }, phase := .checking })
      (.ok [.word "COMPONENT", fId id, .word "CHECKING"],
        (post reqAssembler (.asmCheck a.number a.alg key) s1).1)

/-- R47: the finished key, and its CHECK. -/
def finishAssembly (a : Assembly) (s : State) : State :=
  let key := parityStep a.alg.family a.acc
  let s1 := s.setAsm (some { a with finished := some key, phase := .finishingCheck })
  (post reqAssembler (.asmCheck a.number a.alg key) s1).1

/-- R46: the checks of CONFIRM, in order, for either answer. -/
def confirmChecks (id : Nat) (s : State) (k : Assembly → HeldComponent → PanelAnswer × State) : PanelAnswer × State :=
  match s.asm.record with
  | none => panelRefuse .noAssembly s
  | some a =>
    match a.held with
    | none => panelRefuse .notHeld s
    | some h =>
      if h.id ≠ id then panelRefuse .notHeld s
      else if a.phase = .checking then panelRefuse .checking s
      else if s.auth.state ≠ .dual then panelRefuse .notAuthorised s
      else k a h

/-- R46: YES. -/
def confirmYes (id : Nat) (s : State) : PanelAnswer × State :=
  confirmChecks id s fun a h =>
    let a1 := { a with done := a.done ++ [(id, h.cv.getD 0)], acc := xorText a.acc h.bytes, held := none,
                       phase := .collecting }
    let j := a1.done.length
    let s1 := s.setAsm (some a1)
    (.ok [.word "CONFIRM", fId id, .field "PARTS" (.raw (dec j ++ txt "/" ++ dec a.parts))],
      if a.parts ≤ j then finishAssembly a1 s1 else s1)

/-- R46: NO. -/
def confirmNo (id : Nat) (s : State) : PanelAnswer × State :=
  confirmChecks id s fun a _ =>
    (.ok [.word "CONFIRM", fId id, .word "DISCARDED"],
      s.setAsm (some { a with held := none, phase := .collecting }))

/-! ## Cipher outputs of the Assembler (R45, R48) -/

/-- R48: the component list as the notice writes it. -/
def partsText (done : List (Nat × CheckValue)) : Text :=
  commaList (done.map fun p => dec p.1 ++ txt ":" ++ hexW 6 p.2.toNat)

/-- R45, R48: a CHECK of the Assembler completes with value `cv`. An output whose assembly number is not the open
assembly's is discarded (R41). -/
def asmCheckDone (number : BitVec 16) (cv : CheckValue) (s : State) : State :=
  match s.asm.record with
  | none => s
  | some a =>
    if a.number ≠ number then s
    else match a.phase with
      | .checking => match a.held with
        | none => s
        | some h =>
          raiseMessage [.word "CV", fId h.id, .field "VALUE" (cvValue cv)]
            (s.setAsm (some { a with held := some { h with cv := some cv }, phase := .confirming }))
      | .finishingCheck =>
        if a.expected.isSome && a.expected ≠ some cv then
          raiseBoth (assemblyLine a.slot [.field "RESULT" (.word "FAILED"), .field "CV" (cvValue cv)])
            ((s.emptySlot a.slot).setAsm none)
        else match s.slotAt a.slot with
          | none => s
          | some r =>
            let s1 := s.setAsm (some { a with finishedCv := some cv, phase := .finishingTag })
            (post reqAssembler (.asmTag number r.cls r.alg (a.finished.getD []) r.kver r.label) s1).1
      | _ => s

/-- R48: the TAG of the finished slot completes: key, check value and tag are written together, the entry number rises
(R16) and the slot becomes ACTIVE. -/
def asmTagDone (number : BitVec 16) (tag : Text) (s : State) : State :=
  match s.asm.record with
  | none => s
  | some a =>
    if a.number ≠ number || a.phase ≠ .finishingTag then s
    else match s.slotAt a.slot with
      | none => s
      | some r =>
        let cv := a.finishedCv.getD 0
        let s1 := s.setSlot a.slot (some { r with
          state := .active, material := some { key := a.finished.getD [], cv := cv, tag := tag } })
        let s2 := { s1 with
          keys := { s1.keys with entryNos := put s1.keys.entryNos a.slot (look s1.keys.entryNos 0 a.slot + 1) }
          asm := { s1.asm with record := none } }
        raiseBoth (assemblyLine a.slot [.field "RESULT" (.word "DONE"), .field "CV" (cvValue cv),
          .field "PARTS" (.raw (partsText a.done))]) s2

end Sys2Proof.Machine
end

