-- ==== Sys2Proof/Machine/CipherEvents.lean ====
section
/-! DEFINITION. The completion of a cipher operation, and what the arbiter serves next (R19, R21, R22). -/

namespace Sys2Proof.Machine

/-- R17, R22: the output of the inputs read at the start is handed to its requester. -/
def handOutput (e : Executing) (intact : Bool) (s : State) : State :=
  match e.request with
  | .lane r => goOn e.requester (takeOutput r e.requester e.input s)
  | .asmCheck number _ _ => asmCheckDone number e.input.value s
  | .asmTag number _ _ _ _ _ => asmTagDone number e.input.bytes s
  | .scrub n entryNo => scrubCompare n entryNo e.input.bytes intact s

/-- R21, R122: the lanes that met KEY-FAULT end their runs, unless the run is no longer current. -/
def keyFaults : List FaultNote → State → State
  | [], s => s
  | (q, ordinal, n) :: rest, s =>
    keyFaults rest
      (if ((s.ctxAt q).map RunContext.ordinal) = some ordinal then endRun q (.keyFault n) s else s)

/-- R19: the unit becomes free, and the arbiter serves. -/
def unitFree (s : State) : State :=
  let (s1, faults) := serveWaiting 10 { s with cipher := { s.cipher with executing := none } }
  keyFaults faults s1

/-- R22: an operation completes. A marked operation's output reaches no requester. The unit stays busy while the
requester takes its output, so that what it posts waits for the arbiter (R19). -/
def cipherComplete (intact : Bool) (s : State) : State :=
  match s.cipher.executing with
  | none => s
  | some e => unitFree (if e.dropped then s else handOutput e intact s)

end Sys2Proof.Machine
end

