-- ==== Sys2Proof/Machine/LaneRequests.lean ====
section
/-! DEFINITION. The lanes' requests (R107 to R110, R127, R135, R143, R148). -/

namespace Sys2Proof.Machine

def fRate (r : Rate) : Item := .field "RATE" (.num r.bps)
def fParity (p : Parity) : Item := .field "PARITY" (.word p.word)

/-- R107, R135: the rate that SET-LANE gives: kept when left out, and none where the number is not one of the five. -/
def rateGiven (rate : Option Nat) (old : Rate) : Option Rate :=
  match rate with
  | none => some old
  | some v => rate? v

/-- R107, R137: the lane's setting and its state. -/
def setOnline (n : Nat) (y : Bool) (s : State) : State :=
  let s1 := s.modLane n fun l => { l with online := y, state := if y then .idle else .offline }
  match (s.laneAt n).state, y with
  | .offline, true => s1.modLine n fun l => if l.tx = .idle then l.hunt else l
  | _, true => s1
  | _, false => s1.modLine n fun l => { l with rx := .closed, gapTimer := none }

/-- R107, R135: SET-LANE: forms, then ranges, then BUSY (entry 10). -/
def setLane (lane : Arg Nat) (online : Arg Bool) (rate : Arg Nat) (parity : Arg Parity) (s : State) :
    Answer × State :=
  lane.num 8 s fun n =>
  online.opt s fun y =>
  rate.optNum 8 s fun r =>
  parity.opt s fun p =>
    below 8 n s <|
      match rateGiven r (s.lineAt n).rate with
      | none => refuse .range s
      | some rt =>
        let l := s.laneAt n
        if l.state = .held || l.state = .running then refuse .busy s
        else
          let y' := y.getD l.online
          let p' := p.getD (s.lineAt n).parity
          let s1 := s.modLine n fun x => { x with rate := rt, parity := p' }
          let s2 := if y.isSome then setOnline n y' s1 else s1
          (.ok [fLane n, .field "ONLINE" (yesNo y'), fRate rt, fParity p'], s2)

/-- R108: a queued request. -/
def RunRequest.text (q : RunRequest) : Text :=
  dec q.plan ++ txt ":" ++ dec q.rep ++ txt ":" ++ dec q.tag ++ txt ":" ++ dec q.iteration

/-- R108: the fields of a RUNNING lane. -/
def RunContext.items (c : RunContext) : List Item :=
  [fPlan c.plan, .field "VERSION" (orNone .num c.version),
    .field "ROUTED" (orNone (fun p => .raw (dec p.1 ++ txt ":" ++ dec p.2)) c.routed), .field "STEP" (.num c.step),
    .field "ABORTING" (yesNo c.abortPending)]

/-- R148: the line's fields. -/
def BenchLine.items (l : BenchLine) : List Item :=
  [fRate l.rate, fParity l.parity, .field "PRESENCE" (.word (if l.presence then "PRESENT" else "ABSENT")),
    .field "SERVED" (yesNo l.served), .field "AWAITING" (orNone (fun k => .word (ReplyKind.word k)) l.expected),
    .field "CHECKERR" (.num l.checkErr), .field "UNSOLICITED" (.num l.unsolicited)]

/-- R108, R148. -/
def readLane (lane : Arg Nat) (s : State) : Answer × State :=
  lane.index 8 s fun n =>
    let l := s.laneAt n
    (.ok ([fLane n, fState l.state.word, .field "ONLINE" (yesNo l.online), fOrdinal l.ordinal,
        .field "REQUESTS" (.raw (commaList (l.queue.map RunRequest.text)))] ++
      ((l.ctx.map RunContext.items).getD []) ++ (s.lineAt n).items), s)

/-- R109, R110. -/
def queueRun (lane plan rep runTag : Arg Nat) (s : State) : Answer × State :=
  lane.num 8 s fun n =>
  plan.num 8 s fun p =>
  rep.optNum 8 s fun c =>
  runTag.optNum 8 s fun t =>
    let count := c.getD 1
    let tag := t.getD 0
    if 8 ≤ n || 16 ≤ p || Config.word16Max < count || Config.word16Max < tag then refuse .range s
    else if (s.laneAt n).state = .offline then refuse .laneOffline s
    else if (s.planAt p).installed.isNone then refuse .noPlan s
    else if Config.queueMax ≤ (s.laneAt n).queue.length then refuse .queueFull s
    else
      let q : RunRequest := { plan := p, rep := count, tag := tag, iteration := 1 }
      let s1 := s.modLane n fun l => { l with queue := l.queue ++ [q] }
      (.ok [fLane n, .field "QUEUED" (.num (s1.laneAt n).queue.length)],
        if (s.laneAt n).state = .idle then startAt n s1 else s1)

/-- R127: FLUSH leaves the head. -/
def flushQueue (flush : Bool) (q : List RunRequest) : List RunRequest := if flush then q.take 1 else q

/-- R127: ABORT-LANE on a HELD lane. -/
def abortHeld (n : Nat) (s : State) : State :=
  let s1 := (leaveWaiting n s).modLane n fun l => { l with queue := l.queue.tail }
  if (s1.laneAt n).queue.isEmpty then s1.modLane n fun l => { l with state := .idle } else startAt n s1

/-- R127: ABORT-LANE. -/
def abortLane (lane : Arg Nat) (flush : Arg Unit) (s : State) : Answer × State :=
  lane.num 8 s fun n =>
  flush.opt s fun fl =>
    below 8 n s <|
      let before := (s.laneAt n).queue
      let after := flushQueue fl.isSome before
      let s1 := s.modLane n fun l => { l with queue := after }
      let (word, s2) := match (s.laneAt n).state with
        | .offline | .idle => ("NONE", s1)
        | .held => ("HELD-REMOVED", abortHeld n s1)
        | .running => abortRun n s1
      (.ok [fLane n, .field "RUN" (.word word), .field "FLUSHED" (.num (before.length - after.length))], s2)

/-- R143: CLEAR-COUNTERS. -/
def clearCounters (lane : Arg Nat) (s : State) : Answer × State :=
  lane.index 8 s fun n =>
    let l := s.lineAt n
    (.ok [fLane n, .field "CHECKERR" (.num l.checkErr), .field "UNSOLICITED" (.num l.unsolicited)],
      s.modLine n fun l => { l with checkErr := 0, unsolicited := 0 })

/-- R110, R169: a HELD lane that was told of a freed place sends its reservation again. -/
def retryReservation (n : Nat) (s : State) : State :=
  if (s.laneAt n).state = .held && s.records.told.contains n then
    startAt n { s with records := { s.records with told := s.records.told.filter (· ≠ n) } }
  else s

end Sys2Proof.Machine
end

