-- ==== Sys2Proof/Machine/StartUp.lean ====
section
/-! DEFINITION. The tamper event, power, start-up (chapter 11), and the requests STATUS, RESTART and
ACKNOWLEDGE-TAMPER. -/

namespace Sys2Proof.Machine

/-! ## The tamper event (R185, R186) -/

/-- R185, R186: the TAMPER notice. -/
def tamperLineOf (when_ : String) (slots accounts runs : Nat) : Line :=
  [.word "!", .word "TAMPER", .field "WHEN" (.word when_), .field "SLOTS" (.num slots),
    .field "ACCOUNTS" (.num accounts), .field "RUNS" (.num runs)]

/-- R24, R68, order 3: every slot EMPTY, every account erased. Entry numbers stay (R24). -/
def eraseAll (s : State) : State :=
  { s with keys := { s.keys with slots := Vector.replicate 64 none }, accounts := Vector.replicate 64 none }

/-- R52, order 5, of one roster entry. -/
def Custodian.tampered (c : Custodian) : Custodian :=
  match c.state with
  | .pending => { c with verifier := none, failed := 0 }
  | .enrolled | .locked => c.toPending

/-- R52: the roster after a tamper event. -/
def tamperRoster (t : Table 12 (Option Custodian)) : Table 12 (Option Custodian) :=
  t.map fun e => e.map Custodian.tampered

/-- R52: no session, state NONE, the dual window timer stopped. -/
def AuthUnit.closed (a : AuthUnit) : AuthUnit := { a with sessions := [], state := .none, dualTimer := none }

/-- R37, R52: the AUTH notice and message of a tamper event. -/
def tamperAuth (before : AuthState) (s : State) : State :=
  if before = .none then s
  else raiseMessage (authItems s)
    (raiseNotice ((.word "!" :: authItems s) ++ [.field "CAUSE" (.word "TAMPER")]) s)

/-- R50: the ASSEMBLY notice and message of a tamper event. -/
def tamperAssembly (before : Option Assembly) (s : State) : State :=
  match before with
  | none => s
  | some a => raiseBoth (assemblyLine a.slot [.field "RESULT" (.word "CANCELLED"), .field "CAUSE" (.word "TAMPER")]) s

/-- The lanes RUNNING. -/
def runningLanes (s : State) : Nat := s.lanes.toList.countP fun l => l.state = .running

/-- R185, orders 1 to 5. -/
def tamperOrders (s : State) : State :=
  let s1 := eraseAll { s with latch := true, cipher := cancelAll s.cipher }
  { s1 with
    asm := { s1.asm with record := none }
    auth := { s1.auth.closed with roster := tamperRoster s1.auth.roster } }

/-- R185, order 6: lane by lane, with its line (R132, R140). -/
def tamperLanes (s : State) : State :=
  (List.range 8).foldl (fun t n => tamperLine n (tamperLane n t)) s

/-- R185: a tamper event while the module is powered. The notices enter in the order of R185; the panel's messages keep
the same order (entry 26). -/
def tamperEvent (s : State) : State :=
  if !s.power then s
  else
    let s1 := raiseNotice (tamperLineOf "RUNNING" (usedSlots s) (usedAccounts s) (runningLanes s)) (tamperOrders s)
    tamperLanes (tamperAssembly s.asm.record (tamperAuth s.auth.state s1))

/-- R186: a tamper event with the supply off. The counts of the first one are kept. -/
def tamperPowerOff (s : State) : State :=
  if s.power then s
  else
    let s1 := eraseAll { s with latch := true }
    { s1 with
      auth := { s1.auth with roster := tamperRoster s1.auth.roster }
      offRecord := match s.offRecord with
        | some r => some r
        | none => some (usedSlots s, usedAccounts s) }

/-! ## Power and the beginning of start-up (R188) -/

/-- What is left of the state when the volatile store is lost: battery-backed and non-volatile fields, the contacts'
levels, and the commands that wait (R24, R25, R32, R52, R89, R133, R149, R171, R184). -/
def State.withoutVolatile (s : State) : State :=
  { s with
    link := .down
    panel := .down
    auth := s.auth.closed
    asm := { s.asm with record := none, count := 0 }
    keys := { s.keys with slots := clearBindings s.keys.slots, scrubPointer := 0, scrubTimer := none }
    cipher := .down
    plans := s.plans.map Plan.restarted
    lanes := s.lanes.map fun l => Lane.down l.online l.ordinal
    lines := s.lines.map fun l => BenchLine.down l.rate l.parity l.contact
    records := .down s.records.entries
    mode := .normal
    startUp := none }

/-- R186: the main supply fails. -/
def powerLoss (s : State) : State := if s.power then { s.withoutVolatile with power := false } else s

/-- R186: the notice of a tamper event taken with the supply off; the record is then cleared. -/
def reportOff (s : State) : State :=
  match s.offRecord with
  | none => s
  | some (k, a) => { raiseNotice (tamperLineOf "POWER-OFF" k a 0) s with offRecord := none }

/-- R188: the main supply returns: start-up begins, and the self-test with it. -/
def powerOn (s : State) : State :=
  if s.power then s
  else
    let s1 := { s.withoutVolatile with power := true, startUp := some .powerOn }
    reportOff { s1 with cipher := { s1.cipher with selfTest := true } }

/-- R182: the drain of a RESTART has sent its last line. -/
def LinkPort.drained (k : LinkPort) : Bool := k.draining && k.sending.isNone && k.reply.isNone && k.notices.isEmpty

/-- R25: the Cipher Unit as start-up begins at RESTART. -/
def CipherUnit.restarted (u : CipherUnit) : CipherUnit := { cancelAll u with last := 9, selfTest := true }

/-- R182, R188: start-up begins after a RESTART (R25, R32, R50, R52, R184). -/
def startUpAfterRestart (s : State) : State :=
  if s.power && s.startUp.isNone && s.link.drained then
    { s with
      link := .down
      panel := .down
      auth := s.auth.closed
      asm := { s.asm with record := none, count := 0 }
      cipher := s.cipher.restarted
      startUp := some .restart }
  else s

/-! ## The end of start-up (R188 to R190) -/

/-- R189: an entry is resolved whole. -/
def resolveRecord (r : Record) (s : State) : Record × State :=
  if r.closed then (r, s)
  else
    let (vs, s1) := returnAll r.deliveries s
    ({ r with closed := true, outcome := some .interrupted, failStep := none, voided := r.voided ++ vs }, s1)

/-- R189: the entries one at a time, in reservation order. -/
def resolveRecords : List Record → State → List Record × State
  | [], s => ([], s)
  | r :: rest, s =>
    let (r', s1) := resolveRecord r s
    let (rest', s2) := resolveRecords rest s1
    (r' :: rest', s2)

/-- R188, steps 2 to 4. -/
def settleStores (s : State) : State :=
  let (entries, s1) := resolveRecords s.records.entries s
  { s1 with
    records := .down entries
    keys := { s1.keys with slots := (clearBindings s1.keys.slots).map fun x =>
      if (x.map SlotRec.state) = some .assembling then none else x }
    plans := s1.plans.map Plan.restarted }

/-- R133, R188 step 5: a lane comes up. -/
def Lane.up (mode : Mode) (l : Lane) : Lane :=
  { Lane.down l.online l.ordinal with state := if l.online && mode = .normal then .idle else .offline }

/-- R149, R188 step 5: a line comes up with its lane. -/
def BenchLine.up (st : LaneState) (l : BenchLine) : BenchLine :=
  { BenchLine.down l.rate l.parity l.contact with
    rx := if st = .offline then .closed else .hunting, settle := settleFor l.contact false }

/-- R188, steps 5 and 6. -/
def bringUp (mode : Mode) (s : State) : State :=
  let lanes := s.lanes.map (Lane.up mode)
  { s with
    mode := mode
    lanes := lanes
    lines := Vector.zipWith (fun l x => BenchLine.up l.state x) lanes s.lines
    keys := { s.keys with
      scrubPointer := 0
      scrubTimer := if mode = .failed || s.keys.scrubInterval = 0 then none else some s.keys.scrubInterval } }

/-- R183, R190: the STARTED notice. -/
def startedLine (cause : StartCause) (mode : Mode) (interrupted : Nat) : Line :=
  [.word "!", .word "STARTED", .field "CAUSE" (.word cause.word), .field "MODE" (.word mode.word),
    .field "INTERRUPTED" (.num interrupted)]

/-- R183, R190, step 7: STARTED is placed, the receiver opens, and the held notices follow. -/
def announce (cause : StartCause) (mode : Mode) (interrupted : Nat) (s : State) : State :=
  s.link.hold.foldl (fun t l => raiseNotice l t)
    { s with
      startUp := none
      link := { LinkPort.down with rx := .collecting, notices := [startedLine cause mode interrupted] } }

/-- R25: the self-test has ended: in NORMAL mode the requests posted meanwhile are served; in FAILED mode the unit
serves none, and holds none (entry 18). -/
def unitTested (mode : Mode) (s : State) : State :=
  match mode with
  | .normal => unitFree { s with cipher := { s.cipher with selfTest := false } }
  | .failed => { s with cipher := { s.cipher with selfTest := false, waiting := Vector.replicate 10 none } }

/-- R188: the self-test's outputs decide the mode, and start-up goes through its other steps. The self-test uses the
unit once any marked operation has completed (R25). -/
def selfTestComplete (check derive wrap tag : Bool) (s : State) : State :=
  match s.startUp with
  | none => s
  | some cause =>
    if s.cipher.executing.isSome then s
    else
      let mode : Mode := if check && derive && wrap && tag then .normal else .failed
      unitTested mode
        (announce cause mode (openCount s.records.entries) (bringUp mode (settleStores s)))

/-! ## Requests (R181, R182, R187) -/

/-- R181. -/
def status (s : State) : Answer × State :=
  (.ok [.field "MODE" (.word s.mode.word), .field "TAMPER" (.word (if s.latch then "SET" else "CLEAR")),
    .field "AUTH" (.word s.auth.state.word),
    .field "ASSEMBLY" (match s.asm.record with | some a => .num a.slot | none => .word "NONE"),
    .field "LANES" (.raw (s.lanes.toList.map fun l => l.state.letter)),
    .field "RECORDS" (.raw (dec (openCount s.records.entries) ++ txt ":" ++ dec (closedCount s.records.entries) ++
      txt ":" ++ dec (freePlaces s.records.entries))),
    .field "NOTICES" (.num s.link.notices.length), .field "GAP" (yesNo s.link.gap),
    .field "POLICY" (.word s.asm.policy.word), .field "SCRUB" (.num s.keys.scrubInterval),
    .field "DUALWINDOW" (.num s.auth.dualWindow)], s)

/-- R182: every lane is at rest. -/
def allAtRest (s : State) : Bool :=
  s.lanes.toList.all fun l => (l.state = .idle || l.state = .offline) && l.queue.isEmpty

/-- R182: the receiver closes, and a line being collected or held is dropped. -/
def LinkPort.closing (k : LinkPort) : LinkPort :=
  { k with rx := .closed, buffer := [], held := none, mark := none, draining := true }

/-- R182. -/
def restart (s : State) : Answer × State :=
  if allAtRest s then (.ok [.word "RESTARTING"], { s with link := s.link.closing }) else refuse .busy s

/-- R187. -/
def acknowledgeTamper (s : State) : Answer × State :=
  if s.latch then (.ok [.field "TAMPER" (.word "CLEAR")], { s with latch := false }) else refuse .wrongState s

end Sys2Proof.Machine
end

