-- ==== Sys2Proof/Machine/LinkPort.lean ====
section
/-! DEFINITION. The Link Port (chapter 10): the handling of a request, the ending of a line, the receiver, the
transmitter. -/

namespace Sys2Proof.Machine

/-! ## The handling of a request (R175, Table 10-4) -/

/-- Step 8 for the requests of chapters 1 to 3, and the port's own. -/
def serveKeys (i : Instr) (s : State) : State :=
  match i with
  | .status t => request .operator t true status s
  | .restart t => request .operator t false restart s
  | .listSlots t => request .operator t false listSlots s
  | .readSlot t n => request .operator t false (readSlot n) s
  | .suspendSlot t n => request .custodian t false (suspendSlot n) s
  | .resumeSlot t n => request .custodian t false (resumeSlot n) s
  | .eraseSlot t n => request .custodian t false (eraseSlot n) s
  | .setBudget t n b => request .custodian t false (setBudget n b) s
  | .setScrub t v => request .custodian t false (setScrub v) s
  | .enrolCustodian t n g l => request (enrolLevel g s) t false (enrolCustodian n g l) s
  | .removeCustodian t n => request .custodian t false (removeCustodian n) s
  | .unlockCustodian t n => request .custodian t false (unlockCustodian n) s
  | .setDualWindow t v => request .custodian t false (setDualWindow v) s
  | .setParityPolicy t p => request .custodian t false (setParityPolicy p) s
  | .assembleBegin t a => request .custodian t false (assembleBegin a) s
  | .assembleCancel t => request .custodian t false assembleCancel s
  | .openIssue t n p f l st th => request .custodian t false (openIssue n p f l st th) s
  | .extendIssue t n l => request .custodian t false (extendIssue n l) s
  | .setIssueWarning t n th => request .custodian t false (setIssueWarning n th) s
  | .readIssue t n => request .operator t false (readIssue n) s
  | .acknowledgeTamper t => request .custodian t false acknowledgeTamper s
  | _ => s

/-- Step 8 for the requests of chapters 4 to 9. -/
def serveRuns (i : Instr) (s : State) : State :=
  match i with
  | .readPlan t p => request .operator t false (readPlan p) s
  | .readPlanStep t p w k => request .operator t false (readPlanStep p w k) s
  | .editPlanSet t p k kd a x => request .operator t false (editPlanStep false p k kd a x) s
  | .editPlanInsert t p k kd a x => request .operator t false (editPlanStep true p k kd a x) s
  | .editPlanDelete t p k x => request .operator t false (editPlanDelete p k x) s
  | .editPlanLabel t p l x => request .operator t false (editPlanLabel p l x) s
  | .discardDraft t p => request .operator t false (discardDraft p) s
  | .installPlan t p => request .custodian t false (installPlan p) s
  | .removePlan t p => request .custodian t false (removePlan p) s
  | .readWindow t w lv => request lv t false (readWindow w lv) s
  | .readWindowSummary t lv => request lv t false (readWindowSummary lv) s
  | .setWindow t a lv => request lv t false (setWindow a lv) s
  | .setWindowEnabled t w e x lv => request lv t false (setWindowEnabled w e x lv) s
  | .clearWindow t w lv => request lv t false (clearWindow w lv) s
  | .setDefaultRoute t r => request .custodian t false (setDefaultRoute r) s
  | .queueRun t n p c tg => request .operator t false (queueRun n p c tg) s
  | .abortLane t n f => request .operator t false (abortLane n f) s
  | .setLane t n o r p => request .operator t false (setLane n o r p) s
  | .readLane t n => request .operator t false (readLane n) s
  | .clearCounters t n => request .operator t false (clearCounters n) s
  | .readRecord t => request .operator t false readRecord s
  | .readRecordEntry t n o x => request .operator t false (readRecordEntry n o x) s
  | .readRecordDelivery t n o k => request .operator t false (readRecordDelivery n o k) s
  | .readRecordVoided t n o x => request .operator t false (readRecordVoided n o x) s
  | .readRecordNotes t n o x => request .operator t false (readRecordNotes n o x) s
  | .discardRecord t n o => request .operator t false (discardRecord n o) s
  | i => serveKeys i s

/-- An untagged answer (Table 10-3). -/
def untagged (w : String) : Line := [.word "?", .word w]

/-- R175: a line is handled: steps 1 to 6 have been made of its text, the mode is looked at now (step 4). -/
def handleLine (l : LinkLine) (s : State) : State :=
  match l with
  | .request i => serveRuns i s
  | .refused .empty => s
  | .refused .overlong => setReply (untagged "LONG") s
  | .refused .badCheck => setReply (untagged "CHECK") s
  | .refused .noTag => setReply (untagged "TAG") s
  | .refused .overrun => setReply (untagged "OVERRUN") s
  | .refused (.unknown tag) =>
    setReply ((Answer.err (if s.mode = .failed then .failed else .unknown) []).line tag) s
  | .refused (.badForm tag isStatus) =>
    setReply ((Answer.err (if s.mode = .failed && !isStatus then .failed else .badSyntax) []).line tag) s

/-! ## The ending of a line (R172, R178) -/

def setRx (rx : LinkRx) (s : State) : State := { s with link := { s.link with rx := rx, buffer := [] } }

/-- R178: a line that has ended is handled, or waits while an earlier reply waits or is being sent. -/
def lineReady (l : LinkLine) (s : State) : State :=
  if s.link.replyBusy then
    { s with link := { s.link with rx := .holding, buffer := [], held := some l, mark := none } }
  else handleLine l (setRx .collecting s)

/-- R172, R178: the LF of line `l` arrives. An empty line is discarded (entry 12). A line that ends while the receiver
discards, skips or holds is not taken: the answer is that of the receiver's state. A line is overrun in SKIPPING alone
(entry 5). -/
def lineEnds (l : LinkLine) (s : State) : State :=
  match s.link.rx with
  | .closed => s
  | .collecting => if l = .refused .empty || l = .refused .overrun then setRx .collecting s else lineReady l s
  | .discarding => lineReady (.refused .overlong) s
  | .skipping => lineReady (.refused .overrun) s
  | .holding => { s with link := { s.link with mark := some true } }

/-- R172: a character other than LF in COLLECTING: a CR has a place beyond the buffer's 240. -/
def collectLink (c : Byte) (s : State) : State :=
  let n := s.link.buffer.length
  if n < Config.linkLineMax || (n = Config.linkLineMax && c = chCR) then
    { s with link := { s.link with buffer := s.link.buffer ++ [c] } }
  else setRx .discarding s

/-- R172: a character arrives. -/
def linkCharacter (c : Byte) (s : State) : State :=
  match s.link.rx with
  | .closed => s
  | .collecting => if c = chLF then lineEnds (readLine s.link.buffer) s else collectLink c s
  | .discarding => if c = chLF then lineEnds (.refused .overlong) s else s
  | .skipping => if c = chLF then lineEnds (.refused .overrun) s else s
  | .holding => { s with link := { s.link with mark := some (c = chLF) } }

/-! ## The transmitter (R178, R180) -/

/-- R178: the receiver as a held line is handled, by its overrun mark. -/
def LinkPort.released (k : LinkPort) : LinkPort :=
  match k.mark with
  | none => { k with rx := .collecting, held := none }
  | some true => { k with rx := .holding, held := some (.refused .overrun), mark := none }
  | some false => { k with rx := .skipping, held := none, mark := none }

/-- R178: the line held through a reply is handled at the reply's transmit end. -/
def handleHeld (s : State) : State :=
  match s.link.rx, s.link.held with
  | .holding, some l => handleLine l { s with link := s.link.released }
  | _, _ => s

/-- R178: a line has gone out: the transmitter takes its next line, and a held line is then handled. -/
def linkSent (s : State) : State :=
  match s.link.sending with
  | none => s
  | some x =>
    let s1 := pump { s with link := { s.link with sending := none } }
    if x.isReply then handleHeld s1 else s1

end Sys2Proof.Machine
end

