-- ==== Sys2Proof/Machine/Events.lean ====
section
/-! DEFINITION. The events of the module that are no line of the host or the panel. An event that cannot occur in the
state it finds changes nothing (entry 5). -/

namespace Sys2Proof.Machine

/-- R172 to R175: a line that the port keeps from its block. -/
def execLinkLineRefused (why : RefusedLine) (s : State) :
    Host.Outcome State Fault Refusal :=
  finish (Sys2Proof.Machine.lineEnds (.refused why) s)

/-- R178, R180. -/
def execLinkTransmitEnd (s : State) :
    Host.Outcome State Fault Refusal :=
  finish (Sys2Proof.Machine.linkSent s)

/-- R172. -/
def execLinkCharacterReceived (c : Byte) (s : State) :
    Host.Outcome State Fault Refusal :=
  finish (Sys2Proof.Machine.linkCharacter c s)

/-- R38. -/
def execDualWindowExpiry (s : State) :
    Host.Outcome State Fault Refusal :=
  finish (Sys2Proof.Machine.dualExpiry s)

/-- R14, R15. -/
def execScrubTimerExpiry (s : State) :
    Host.Outcome State Fault Refusal :=
  finish (Sys2Proof.Machine.scrubExpiry s)

/-- R17, R22. -/
def execCipherOperationComplete (intact : Bool) (s : State) :
    Host.Outcome State Fault Refusal :=
  finish (Sys2Proof.Machine.cipherComplete intact s)

/-- R140: a line whose transmitter is idle begins the frame that waits (entry 15). -/
def execTransmitStart (line : Fin 8) (s : State) :
    Host.Outcome State Fault Refusal :=
  finish (Sys2Proof.Machine.beginWaiting line.val s)

/-- R137, R140. -/
def execTransmitEnd (line : Fin 8) (s : State) :
    Host.Outcome State Fault Refusal :=
  finish (Sys2Proof.Machine.transmitEnd line.val s)

/-- R141, R142. -/
def execBenchFrameReceived (line : Fin 8) (kind : Byte) (body : Text) (check : BitVec 16) (bad : Bool) (s : State) :
    Host.Outcome State Fault Refusal :=
  finish (Sys2Proof.Machine.benchFrame line.val kind body check bad s)

/-- R141. -/
def execBodyLengthOverlong (line : Fin 8) (s : State) :
    Host.Outcome State Fault Refusal :=
  finish (Sys2Proof.Machine.overlongHeader line.val s)

/-- R141. -/
def execGapTimerExpiry (line : Fin 8) (s : State) :
    Host.Outcome State Fault Refusal :=
  finish (Sys2Proof.Machine.gapExpiry line.val s)

/-- R117, R120, R124, R125. -/
def execStepTimerExpiry (lane : Fin 8) (s : State) :
    Host.Outcome State Fault Refusal :=
  finish (Sys2Proof.Machine.timerExpiry lane.val s)

/-- R138. -/
def execCradleContactChange (line : Fin 8) (closed : Bool) (s : State) :
    Host.Outcome State Fault Refusal :=
  finish (Sys2Proof.Machine.contactChange line.val closed s)

/-- R138, R115, R126. -/
def execSettleTimerExpiry (line : Fin 8) (s : State) :
    Host.Outcome State Fault Refusal :=
  finish (Sys2Proof.Machine.settleExpiry line.val s)

/-- R110, R164. -/
def execReservationRetry (lane : Fin 8) (s : State) :
    Host.Outcome State Fault Refusal :=
  finish (Sys2Proof.Machine.retryReservation lane.val s)

/-- R136, R141. -/
def execBenchCharacterReceived (line : Fin 8) (data : Byte) (parityBit stopBit : Bool) (s : State) :
    Host.Outcome State Fault Refusal :=
  finish (Sys2Proof.Machine.benchCharacter line.val data parityBit stopBit s)

/-- R185. -/
def execTamperEvent (s : State) :
    Host.Outcome State Fault Refusal :=
  finish (Sys2Proof.Machine.tamperEvent s)

/-- R186. -/
def execTamperPowerOff (s : State) :
    Host.Outcome State Fault Refusal :=
  finish (Sys2Proof.Machine.tamperPowerOff s)

/-- R188. -/
def execPowerOn (s : State) :
    Host.Outcome State Fault Refusal :=
  finish (Sys2Proof.Machine.powerOn s)

/-- R182, R188. -/
def execStartUpAfterRestart (s : State) :
    Host.Outcome State Fault Refusal :=
  finish (Sys2Proof.Machine.startUpAfterRestart s)

/-- R186. -/
def execPowerLoss (s : State) :
    Host.Outcome State Fault Refusal :=
  finish (Sys2Proof.Machine.powerLoss s)

/-- R188 to R190. -/
def execSelfTestComplete (check derive wrap tag : Bool) (s : State) :
    Host.Outcome State Fault Refusal :=
  finish (Sys2Proof.Machine.selfTestComplete check derive wrap tag s)

end Sys2Proof.Machine
end

