-- ==== Sys2Proof/Machine/PanelPort.lean ====
section
/-! DEFINITION. The Panel Port (R31, R32): the text of a panel line, the receiver, the output queue. -/

namespace Sys2Proof.Machine

/-! ## The text of a panel line (R31, Table 2-4) -/

/-- R31: the bytes of a run of hex digits. -/
def hexBytes : Text → Text
  | a :: b :: rest => BitVec.ofNat 8 (hexVal a * 16 + hexVal b) :: hexBytes rest
  | _ => []

/-- R31: ID is 1 or 2 decimal digits. -/
def panelId (f : Fields) : Option Nat := (f.get "ID").bind (readNum 2)
/-- R31: a passcode is a run of decimal digits. A run has at least one, so an empty value is not of its form (entry 20). -/
def panelDigits (f : Fields) (name : String) : Option Text :=
  (f.get name).filter fun t => !t.isEmpty && t.all isDigit
/-- R31: a key is a run of hex digits of even number. A run has at least one, so an empty value is not of its form
(entry 20). -/
def panelKey (f : Fields) : Option Text :=
  ((f.get "KEY").filter fun t => !t.isEmpty && t.length % 2 = 0 && t.all isHex).map hexBytes

/-- Table 2-4: a command of the panel, its arguments, and the command that a line of them is. -/
structure PanelCommand where
  word  : String
  takes : List String
  make  : Fields → Option Instr

def panelCatalogue : List PanelCommand :=
  [ ⟨"NEWCODE", ["ID", "CODE", "AGAIN"], fun f =>
      (panelId f).bind fun n => (panelDigits f "CODE").bind fun c => (panelDigits f "AGAIN").map fun a =>
        .newcode n c a⟩,
    ⟨"LOGON", ["ID", "CODE"], fun f => (panelId f).bind fun n => (panelDigits f "CODE").map fun c => .logon n c⟩,
    ⟨"LOGOFF", ["ID"], fun f => (panelId f).map fun n => .logoff n⟩,
    ⟨"SHOW", [], fun _ => some .showPanel⟩,
    ⟨"COMPONENT", ["ID", "KEY"], fun f => (panelId f).bind fun n => (panelKey f).map fun k => .component n k⟩,
    ⟨"CONFIRM", ["ID", "ANSWER"], fun f => (panelId f).bind fun n =>
      ((f.get "ANSWER").bind (readWord yesNoWords)).map fun y => if y then .confirmYes n else .confirmNo n⟩ ]

/-- R31: an argument of a panel line, a name, an equals sign and a value without spaces. -/
def panelArg (t : Text) : Option (Text × Text) :=
  let name := t.takeWhile fun c => c ≠ chEq
  match t.drop name.length with
  | _ :: v => some (name, v)
  | [] => none

/-- The pieces of a text between single spaces. -/
def pieces : Text → List Text
  | [] => [[]]
  | c :: rest =>
    if c = chSpace then [] :: pieces rest
    else match pieces rest with
      | p :: ps => (c :: p) :: ps
      | [] => [[c]]

/-- R31: the arguments of a panel line: each of its form, each one the command takes, none twice, none missing. -/
def panelArgs (takes : List String) (parts : List Text) : Option Fields :=
  (parts.mapM panelArg).filter fun f =>
    f.all (fun p => takes.any fun n => txt n = p.1) && decide (f.map Prod.fst).Nodup && takes.all f.has

/-- R31: a panel line, less its CR LF. -/
def readPanel (t : Text) : PanelLine :=
  let parts := pieces t
  match panelCatalogue.find? fun c => txt c.word = parts.headD [] with
  | none => .refused .unknown
  | some c =>
    if !t.all isPrintable then .refused .badSyntax
    else match (panelArgs c.takes parts.tail).bind c.make with
      | some i => .command i
      | none => .refused .badSyntax

/-! ## The handling of a panel line -/

/-- Table 2-4: the command of a line. -/
def panelAnswer (l : PanelLine) (s : State) : PanelAnswer × State :=
  match l with
  | .refused .long => panelRefuse .long s
  | .refused .unknown => panelRefuse .unknown s
  | .refused .badSyntax => panelRefuse .badSyntax s
  | .command (.newcode n c a) => newcode n c a s
  | .command (.logon n c) => logon n c s
  | .command (.logoff n) => logoff n s
  | .command .showPanel => showPanel s
  | .command (.component n k) => component n k s
  | .command (.confirmYes n) => confirmYes n s
  | .command (.confirmNo n) => confirmNo n s
  | .command _ => panelRefuse .unknown s

def handlePanel (l : PanelLine) (s : State) : State := panelServe (panelAnswer l) s

/-- R32, R188: the port takes characters: the module is powered, no start-up is under way, the mode is NORMAL. -/
def panelOpen (s : State) : Bool := s.power && s.startUp.isNone && s.mode = .normal

/-- R32: a reply has not gone out yet. -/
def panelBusy (s : State) : Bool := s.panel.out.any PanelOut.isReply

/-- The receiver at the start of a line. -/
def PanelPort.fresh (p : PanelPort) : PanelPort := { p with buffer := [], cr := false, long := false, skip := false }

/-- R32: line `l` has ended: it is handled, or held while a reply has not gone out. While a line is held it is
discarded. -/
def panelEnds (l : PanelLine) (s : State) : State :=
  let s1 := { s with panel := s.panel.fresh }
  if s.panel.skip || s.panel.held.isSome then s1
  else if panelBusy s then { s1 with panel := { s1.panel with held := some l } }
  else handlePanel l s1

/-- R31, R32: the CR LF of line `l` arrives. While the receiver discards an over-long line it ends that line, whatever `l`
is: a row of the table given there is answered ERR LONG (entry 5). -/
def panelLineEnds (l : PanelLine) (s : State) : State :=
  if !panelOpen s then s else panelEnds (if s.panel.long then .refused .long else l) s

/-- R31: characters join the line, at most 120; a longer line is discarded as its characters arrive. -/
def PanelPort.add (cs : Text) (p : PanelPort) : PanelPort :=
  if p.long || p.skip then p
  else if p.buffer.length + cs.length ≤ Config.panelLineMax then { p with buffer := p.buffer ++ cs }
  else { p with buffer := [], long := true }

/-- R32: a character other than the LF of a CR LF. A CR waits for what follows it; a CR that no LF follows is a
character of the line (entry 20). -/
def PanelPort.receive (c : Byte) (p : PanelPort) : PanelPort :=
  let q := if p.cr then { p.add [chCR] with cr := false } else p
  let r := if p.held.isSome then { q with buffer := [], skip := true } else q
  if c = chCR then { r with cr := true } else r.add [c]

/-- R31, R32: a character arrives at the Panel Port. -/
def panelCharacter (c : Byte) (s : State) : State :=
  if !panelOpen s then s
  else if c = chLF && s.panel.cr then
    panelLineEnds (readPanel s.panel.buffer) s
  else { s with panel := s.panel.receive c }

/-! ## Sending (R32) -/

/-- R32: a held line is handled once the reply before it has gone out. -/
def panelHeld (s : State) : State :=
  match s.panel.held with
  | none => s
  | some l => handlePanel l { s with panel := { s.panel with held := none } }

/-- R32: the line being sent is the oldest of the output queue; a reply has gone out. -/
def panelReplySent (s : State) : State :=
  match s.panel.out with
  | o :: rest => if o.isReply then panelHeld { s with panel := { s.panel with out := rest } } else s
  | [] => s

/-- R32: a message has gone out. -/
def panelMessageSent (s : State) : State :=
  match s.panel.out with
  | o :: rest => if o.isReply then s else { s with panel := { s.panel with out := rest } }
  | [] => s

end Sys2Proof.Machine
end

