-- ==== Sys2Proof/Machine/PanelCommands.lean ====
section
/-! DEFINITION. The panel's commands: each is the event at which the line's CR LF arrives (entry 8). -/

namespace Sys2Proof.Machine

/-- R31, R32: a panel line arrives whole. -/
def panelLine (i : Instr) (s : State) : Host.Outcome State Fault Refusal := finish (panelLineEnds (.command i) s)

/-- R33. -/
def execNewcode (id : Nat) (code again : Text) (s : State) : Host.Outcome State Fault Refusal :=
  panelLine (.newcode id code again) s

/-- R34. -/
def execLogon (id : Nat) (code : Text) (s : State) : Host.Outcome State Fault Refusal :=
  panelLine (.logon id code) s

/-- R35. -/
def execLogoff (id : Nat) (s : State) : Host.Outcome State Fault Refusal :=
  panelLine (.logoff id) s

/-- R36. -/
def execShowPanel (s : State) : Host.Outcome State Fault Refusal :=
  panelLine .showPanel s

/-- R44. -/
def execComponent (id : Nat) (key : Text) (s : State) : Host.Outcome State Fault Refusal :=
  panelLine (.component id key) s

/-- R46. -/
def execConfirmYes (id : Nat) (s : State) : Host.Outcome State Fault Refusal :=
  panelLine (.confirmYes id) s

/-- R46. -/
def execConfirmNo (id : Nat) (s : State) : Host.Outcome State Fault Refusal :=
  panelLine (.confirmNo id) s

/-- R31, R32: a panel line that the port refuses itself. -/
def execPanelLineRefused (why : RefusedPanelLine) (s : State) : Host.Outcome State Fault Refusal :=
  finish (panelLineEnds (.refused why) s)

/-- R32. -/
def execPanelReplySent (s : State) : Host.Outcome State Fault Refusal :=
  finish (panelReplySent s)

/-- R32. -/
def execPanelMessageSent (s : State) : Host.Outcome State Fault Refusal :=
  finish (panelMessageSent s)

/-- R31, R32. -/
def execPanelCharacterReceived (c : Byte) (s : State) : Host.Outcome State Fault Refusal :=
  finish (panelCharacter c s)

end Sys2Proof.Machine
end

