-- ==== Sys2Proof/Machine/Requests.lean ====
section
/-! DEFINITION. The requests of the Link Port as commands: each is the event at which the request's line ends (entry 8).
The port's steps are `lineEnds`, the owning block's part is the definition of the request's own name. -/

namespace Sys2Proof.Machine

/-- R172, R175: a request line ends. -/
def requestLine (i : Instr) (s : State) : Host.Outcome State Fault Refusal := finish (lineEnds (.request i) s)

/-- R181. -/
def execStatus (tag : Text) (s : State) :
    Host.Outcome State Fault Refusal :=
  requestLine (.status tag) s

/-- R182. -/
def execRestart (tag : Text) (s : State) :
    Host.Outcome State Fault Refusal :=
  requestLine (.restart tag) s

/-- R8. -/
def execListSlots (tag : Text) (s : State) :
    Host.Outcome State Fault Refusal :=
  requestLine (.listSlots tag) s

/-- R8. -/
def execReadSlot (tag : Text) (slot : Arg Nat) (s : State) :
    Host.Outcome State Fault Refusal :=
  requestLine (.readSlot tag slot) s

/-- R5. -/
def execSuspendSlot (tag : Text) (slot : Arg Nat) (s : State) :
    Host.Outcome State Fault Refusal :=
  requestLine (.suspendSlot tag slot) s

/-- R6. -/
def execResumeSlot (tag : Text) (slot : Arg Nat) (s : State) :
    Host.Outcome State Fault Refusal :=
  requestLine (.resumeSlot tag slot) s

/-- R7. -/
def execEraseSlot (tag : Text) (slot : Arg Nat) (s : State) :
    Host.Outcome State Fault Refusal :=
  requestLine (.eraseSlot tag slot) s

/-- R10. -/
def execSetBudget (tag : Text) (slot : Arg Nat) (budget : Arg Budget) (s : State) :
    Host.Outcome State Fault Refusal :=
  requestLine (.setBudget tag slot budget) s

/-- R14. -/
def execSetScrub (tag : Text) (interval : Arg Nat) (s : State) :
    Host.Outcome State Fault Refusal :=
  requestLine (.setScrub tag interval) s

/-- R28. -/
def execEnrolCustodian (tag : Text) (id : Arg Nat) (group : Arg Group) (label : Arg Text) (s : State) :
    Host.Outcome State Fault Refusal :=
  requestLine (.enrolCustodian tag id group label) s

/-- R29. -/
def execRemoveCustodian (tag : Text) (id : Arg Nat) (s : State) :
    Host.Outcome State Fault Refusal :=
  requestLine (.removeCustodian tag id) s

/-- R30. -/
def execUnlockCustodian (tag : Text) (id : Arg Nat) (s : State) :
    Host.Outcome State Fault Refusal :=
  requestLine (.unlockCustodian tag id) s

/-- R40. -/
def execSetDualWindow (tag : Text) (seconds : Arg Nat) (s : State) :
    Host.Outcome State Fault Refusal :=
  requestLine (.setDualWindow tag seconds) s

/-- R43. -/
def execSetParityPolicy (tag : Text) (policy : Arg Policy) (s : State) :
    Host.Outcome State Fault Refusal :=
  requestLine (.setParityPolicy tag policy) s

/-- R42. -/
def execAssembleBegin (tag : Text) (args : AssembleArgs) (s : State) :
    Host.Outcome State Fault Refusal :=
  requestLine (.assembleBegin tag args) s

/-- R51. -/
def execAssembleCancel (tag : Text) (s : State) :
    Host.Outcome State Fault Refusal :=
  requestLine (.assembleCancel tag) s

/-- R56. -/
def execOpenIssue (tag : Text) (slot : Arg Nat) (pfx : Arg (BitVec 24)) (first last step threshold : Arg Nat) (s : State) :
    Host.Outcome State Fault Refusal :=
  requestLine (.openIssue tag slot pfx first last step threshold) s

/-- R57. -/
def execExtendIssue (tag : Text) (slot last : Arg Nat) (s : State) :
    Host.Outcome State Fault Refusal :=
  requestLine (.extendIssue tag slot last) s

/-- R58. -/
def execSetIssueWarning (tag : Text) (slot threshold : Arg Nat) (s : State) :
    Host.Outcome State Fault Refusal :=
  requestLine (.setIssueWarning tag slot threshold) s

/-- R59. -/
def execReadIssue (tag : Text) (slot : Arg Nat) (s : State) :
    Host.Outcome State Fault Refusal :=
  requestLine (.readIssue tag slot) s

/-- R83. -/
def execReadPlan (tag : Text) (plan : Arg Nat) (s : State) :
    Host.Outcome State Fault Refusal :=
  requestLine (.readPlan tag plan) s

/-- R83. -/
def execReadPlanStep (tag : Text) (plan : Arg Nat) (which : Arg Which) (step : Arg Nat) (s : State) :
    Host.Outcome State Fault Refusal :=
  requestLine (.readPlanStep tag plan which step) s

/-- R80. -/
def execEditPlanSet (tag : Text) (plan step : Arg Nat) (kind : Arg StepKind) (ops : StepArgs) (extra : Bool) (s : State) :
    Host.Outcome State Fault Refusal :=
  requestLine (.editPlanSet tag plan step kind ops extra) s

/-- R80. -/
def execEditPlanInsert (tag : Text) (plan step : Arg Nat) (kind : Arg StepKind) (ops : StepArgs) (extra : Bool) (s : State) :
    Host.Outcome State Fault Refusal :=
  requestLine (.editPlanInsert tag plan step kind ops extra) s

/-- R80. -/
def execEditPlanDelete (tag : Text) (plan step : Arg Nat) (extra : Bool) (s : State) :
    Host.Outcome State Fault Refusal :=
  requestLine (.editPlanDelete tag plan step extra) s

/-- R80. -/
def execEditPlanLabel (tag : Text) (plan : Arg Nat) (label : Arg Text) (extra : Bool) (s : State) :
    Host.Outcome State Fault Refusal :=
  requestLine (.editPlanLabel tag plan label extra) s

/-- R82. -/
def execDiscardDraft (tag : Text) (plan : Arg Nat) (s : State) :
    Host.Outcome State Fault Refusal :=
  requestLine (.discardDraft tag plan) s

/-- R85. -/
def execInstallPlan (tag : Text) (plan : Arg Nat) (s : State) :
    Host.Outcome State Fault Refusal :=
  requestLine (.installPlan tag plan) s

/-- R86. -/
def execRemovePlan (tag : Text) (plan : Arg Nat) (s : State) :
    Host.Outcome State Fault Refusal :=
  requestLine (.removePlan tag plan) s

/-- R101. -/
def execReadWindow (tag : Text) (window : Arg Nat) (level : Level) (s : State) :
    Host.Outcome State Fault Refusal :=
  requestLine (.readWindow tag window level) s

/-- R102. -/
def execReadWindowSummary (tag : Text) (level : Level) (s : State) :
    Host.Outcome State Fault Refusal :=
  requestLine (.readWindowSummary tag level) s

/-- R98. -/
def execSetWindow (tag : Text) (args : WindowArgs) (level : Level) (s : State) :
    Host.Outcome State Fault Refusal :=
  requestLine (.setWindow tag args level) s

/-- R99. -/
def execSetWindowEnabled (tag : Text) (window : Arg Nat) (enabled : Arg Bool) (extra : Bool) (level : Level) (s : State) :
    Host.Outcome State Fault Refusal :=
  requestLine (.setWindowEnabled tag window enabled extra level) s

/-- R100. -/
def execClearWindow (tag : Text) (window : Arg Nat) (level : Level) (s : State) :
    Host.Outcome State Fault Refusal :=
  requestLine (.clearWindow tag window level) s

/-- R103. -/
def execSetDefaultRoute (tag : Text) (route : Arg DefaultRoute) (s : State) :
    Host.Outcome State Fault Refusal :=
  requestLine (.setDefaultRoute tag route) s

/-- R109. -/
def execQueueRun (tag : Text) (lane plan rep runTag : Arg Nat) (s : State) :
    Host.Outcome State Fault Refusal :=
  requestLine (.queueRun tag lane plan rep runTag) s

/-- R127. -/
def execAbortLane (tag : Text) (lane : Arg Nat) (flush : Arg Unit) (s : State) :
    Host.Outcome State Fault Refusal :=
  requestLine (.abortLane tag lane flush) s

/-- R107. -/
def execSetLane (tag : Text) (lane : Arg Nat) (online : Arg Bool) (rate : Arg Nat) (parity : Arg Parity) (s : State) :
    Host.Outcome State Fault Refusal :=
  requestLine (.setLane tag lane online rate parity) s

/-- R108. -/
def execReadLane (tag : Text) (lane : Arg Nat) (s : State) :
    Host.Outcome State Fault Refusal :=
  requestLine (.readLane tag lane) s

/-- R143. -/
def execClearCounters (tag : Text) (lane : Arg Nat) (s : State) :
    Host.Outcome State Fault Refusal :=
  requestLine (.clearCounters tag lane) s

/-- R167. -/
def execReadRecord (tag : Text) (s : State) :
    Host.Outcome State Fault Refusal :=
  requestLine (.readRecord tag) s

/-- R168. -/
def execReadRecordEntry (tag : Text) (lane ordinal : Arg Nat) (extra : Bool) (s : State) :
    Host.Outcome State Fault Refusal :=
  requestLine (.readRecordEntry tag lane ordinal extra) s

/-- R168. -/
def execReadRecordDelivery (tag : Text) (lane ordinal index : Arg Nat) (s : State) :
    Host.Outcome State Fault Refusal :=
  requestLine (.readRecordDelivery tag lane ordinal index) s

/-- R168. -/
def execReadRecordVoided (tag : Text) (lane ordinal : Arg Nat) (extra : Bool) (s : State) :
    Host.Outcome State Fault Refusal :=
  requestLine (.readRecordVoided tag lane ordinal extra) s

/-- R168. -/
def execReadRecordNotes (tag : Text) (lane ordinal : Arg Nat) (extra : Bool) (s : State) :
    Host.Outcome State Fault Refusal :=
  requestLine (.readRecordNotes tag lane ordinal extra) s

/-- R169. -/
def execDiscardRecord (tag : Text) (lane ordinal : Arg Nat) (s : State) :
    Host.Outcome State Fault Refusal :=
  requestLine (.discardRecord tag lane ordinal) s

/-- R187. -/
def execAcknowledgeTamper (tag : Text) (s : State) :
    Host.Outcome State Fault Refusal :=
  requestLine (.acknowledgeTamper tag) s

end Sys2Proof.Machine
end

