-- ==== Sys2Proof/Machine/Dispatch.lean ====
section
/-! DEFINITION. One arm for each command: one call of its meaning. -/

namespace Sys2Proof.Machine

open Sys2Proof

def exec (i : Instr) (s : State) : Host.Outcome State Fault Refusal :=
  match i with
  | .status tag => Sys2Proof.Machine.execStatus tag s
  | .restart tag => Sys2Proof.Machine.execRestart tag s
  | .listSlots tag => Sys2Proof.Machine.execListSlots tag s
  | .readSlot tag slot => Sys2Proof.Machine.execReadSlot tag slot s
  | .suspendSlot tag slot => Sys2Proof.Machine.execSuspendSlot tag slot s
  | .resumeSlot tag slot => Sys2Proof.Machine.execResumeSlot tag slot s
  | .eraseSlot tag slot => Sys2Proof.Machine.execEraseSlot tag slot s
  | .setBudget tag slot budget => Sys2Proof.Machine.execSetBudget tag slot budget s
  | .setScrub tag interval => Sys2Proof.Machine.execSetScrub tag interval s
  | .enrolCustodian tag id group label => Sys2Proof.Machine.execEnrolCustodian tag id group label s
  | .removeCustodian tag id => Sys2Proof.Machine.execRemoveCustodian tag id s
  | .unlockCustodian tag id => Sys2Proof.Machine.execUnlockCustodian tag id s
  | .setDualWindow tag seconds => Sys2Proof.Machine.execSetDualWindow tag seconds s
  | .setParityPolicy tag policy => Sys2Proof.Machine.execSetParityPolicy tag policy s
  | .assembleBegin tag args => Sys2Proof.Machine.execAssembleBegin tag args s
  | .assembleCancel tag => Sys2Proof.Machine.execAssembleCancel tag s
  | .openIssue tag slot pfx first last step threshold => Sys2Proof.Machine.execOpenIssue tag slot pfx first last step threshold s
  | .extendIssue tag slot last => Sys2Proof.Machine.execExtendIssue tag slot last s
  | .setIssueWarning tag slot threshold => Sys2Proof.Machine.execSetIssueWarning tag slot threshold s
  | .readIssue tag slot => Sys2Proof.Machine.execReadIssue tag slot s
  | .readPlan tag plan => Sys2Proof.Machine.execReadPlan tag plan s
  | .readPlanStep tag plan which step => Sys2Proof.Machine.execReadPlanStep tag plan which step s
  | .editPlanSet tag plan step kind ops extra => Sys2Proof.Machine.execEditPlanSet tag plan step kind ops extra s
  | .editPlanInsert tag plan step kind ops extra => Sys2Proof.Machine.execEditPlanInsert tag plan step kind ops extra s
  | .editPlanDelete tag plan step extra => Sys2Proof.Machine.execEditPlanDelete tag plan step extra s
  | .editPlanLabel tag plan label extra => Sys2Proof.Machine.execEditPlanLabel tag plan label extra s
  | .discardDraft tag plan => Sys2Proof.Machine.execDiscardDraft tag plan s
  | .installPlan tag plan => Sys2Proof.Machine.execInstallPlan tag plan s
  | .removePlan tag plan => Sys2Proof.Machine.execRemovePlan tag plan s
  | .readWindow tag window level => Sys2Proof.Machine.execReadWindow tag window level s
  | .readWindowSummary tag level => Sys2Proof.Machine.execReadWindowSummary tag level s
  | .setWindow tag args level => Sys2Proof.Machine.execSetWindow tag args level s
  | .setWindowEnabled tag window enabled extra level => Sys2Proof.Machine.execSetWindowEnabled tag window enabled extra level s
  | .clearWindow tag window level => Sys2Proof.Machine.execClearWindow tag window level s
  | .setDefaultRoute tag route => Sys2Proof.Machine.execSetDefaultRoute tag route s
  | .queueRun tag lane plan rep runTag => Sys2Proof.Machine.execQueueRun tag lane plan rep runTag s
  | .abortLane tag lane flush => Sys2Proof.Machine.execAbortLane tag lane flush s
  | .setLane tag lane online rate parity => Sys2Proof.Machine.execSetLane tag lane online rate parity s
  | .readLane tag lane => Sys2Proof.Machine.execReadLane tag lane s
  | .clearCounters tag lane => Sys2Proof.Machine.execClearCounters tag lane s
  | .readRecord tag => Sys2Proof.Machine.execReadRecord tag s
  | .readRecordEntry tag lane ordinal extra => Sys2Proof.Machine.execReadRecordEntry tag lane ordinal extra s
  | .readRecordDelivery tag lane ordinal index => Sys2Proof.Machine.execReadRecordDelivery tag lane ordinal index s
  | .readRecordVoided tag lane ordinal extra => Sys2Proof.Machine.execReadRecordVoided tag lane ordinal extra s
  | .readRecordNotes tag lane ordinal extra => Sys2Proof.Machine.execReadRecordNotes tag lane ordinal extra s
  | .discardRecord tag lane ordinal => Sys2Proof.Machine.execDiscardRecord tag lane ordinal s
  | .acknowledgeTamper tag => Sys2Proof.Machine.execAcknowledgeTamper tag s
  | .linkLineRefused why => Sys2Proof.Machine.execLinkLineRefused why s
  | .linkTransmitEnd => Sys2Proof.Machine.execLinkTransmitEnd s
  | .newcode id code again => Sys2Proof.Machine.execNewcode id code again s
  | .logon id code => Sys2Proof.Machine.execLogon id code s
  | .logoff id => Sys2Proof.Machine.execLogoff id s
  | .showPanel => Sys2Proof.Machine.execShowPanel s
  | .component id key => Sys2Proof.Machine.execComponent id key s
  | .confirmYes id => Sys2Proof.Machine.execConfirmYes id s
  | .confirmNo id => Sys2Proof.Machine.execConfirmNo id s
  | .panelLineRefused why => Sys2Proof.Machine.execPanelLineRefused why s
  | .panelReplySent => Sys2Proof.Machine.execPanelReplySent s
  | .dualWindowExpiry => Sys2Proof.Machine.execDualWindowExpiry s
  | .scrubTimerExpiry => Sys2Proof.Machine.execScrubTimerExpiry s
  | .cipherOperationComplete intact => Sys2Proof.Machine.execCipherOperationComplete intact s
  | .transmitStart line => Sys2Proof.Machine.execTransmitStart line s
  | .transmitEnd line => Sys2Proof.Machine.execTransmitEnd line s
  | .benchFrameReceived line kind body check bad => Sys2Proof.Machine.execBenchFrameReceived line kind body check bad s
  | .bodyLengthOverlong line => Sys2Proof.Machine.execBodyLengthOverlong line s
  | .gapTimerExpiry line => Sys2Proof.Machine.execGapTimerExpiry line s
  | .stepTimerExpiry lane => Sys2Proof.Machine.execStepTimerExpiry lane s
  | .cradleContactChange line closed => Sys2Proof.Machine.execCradleContactChange line closed s
  | .settleTimerExpiry line => Sys2Proof.Machine.execSettleTimerExpiry line s
  | .reservationRetry lane => Sys2Proof.Machine.execReservationRetry lane s
  | .tamperEvent => Sys2Proof.Machine.execTamperEvent s
  | .tamperPowerOff => Sys2Proof.Machine.execTamperPowerOff s
  | .powerOn => Sys2Proof.Machine.execPowerOn s
  | .startUpAfterRestart => Sys2Proof.Machine.execStartUpAfterRestart s
  | .powerLoss => Sys2Proof.Machine.execPowerLoss s
  | .selfTestComplete check derive wrap tag => Sys2Proof.Machine.execSelfTestComplete check derive wrap tag s
  | .benchCharacterReceived line data parityBit stopBit => Sys2Proof.Machine.execBenchCharacterReceived line data parityBit stopBit s
  | .linkCharacterReceived c => Sys2Proof.Machine.execLinkCharacterReceived c s
  | .panelCharacterReceived c => Sys2Proof.Machine.execPanelCharacterReceived c s
  | .panelMessageSent => Sys2Proof.Machine.execPanelMessageSent s

end Sys2Proof.Machine
end

