-- ==== Sys2Proof/WellFormed.lean ====
section
/-! DEFINITION. The commands as their lines can carry them: the bounds that the text of a line puts on its operands. -/

namespace Sys2Proof

open Machine

/-- R174: a tag of 1 to 4 decimal digits. -/
def wfTag (t : Text) : Bool :=
  1 ≤ t.length && t.length ≤ 4 && t.all fun c => 0x30 ≤ c.toNat && c.toNat ≤ 0x39

/-- R174: a number of at most `d` decimal digits. -/
def wfNum (d : Nat) (a : Arg Nat) : Bool :=
  match a with
  | .val n => n < 10 ^ d
  | _ => true

/-- R174: a value of printable characters that fits a request line. -/
def wfText (a : Arg Text) : Bool :=
  match a with
  | .val t => t.length ≤ Config.linkLineMax && t.all fun c => 0x20 ≤ c.toNat && c.toNat ≤ 0x7E
  | _ => true

/-- R9, R174: a budget is UNLIMITED or a number of at most 8 digits. -/
def wfBudget (a : Arg Budget) : Bool :=
  match a with
  | .val (.count n) => n < 10 ^ 8
  | _ => true

/-- R103, R174. -/
def wfRoute (a : Arg DefaultRoute) : Bool :=
  match a with
  | .val (.plan p) => p < 10 ^ 8
  | _ => true

/-- R81: the numbers of a step. -/
def Machine.StepArgs.wf (a : StepArgs) : Bool :=
  wfNum 7 a.slot && wfNum 7 a.tslot && wfNum 7 a.pos && wfText a.text && wfNum 7 a.duration && wfNum 7 a.limit &&
    wfNum 7 a.timeout

/-- R42. -/
def Machine.AssembleArgs.wf (a : AssembleArgs) : Bool :=
  wfNum 8 a.slot && wfNum 8 a.len && wfNum 8 a.parts && wfText a.label && wfNum 8 a.kver && wfBudget a.budget

/-- R98. -/
def Machine.WindowArgs.wf (a : WindowArgs) : Bool :=
  wfNum 7 a.window && wfText a.model && wfNum 7 a.minfw && wfNum 7 a.plan

/-- R31: an id of 1 or 2 decimal digits. -/
def wfId (n : Nat) : Bool := n < 100

/-- R31: a run of decimal digits that fits a panel line. -/
def wfDigits (t : Text) : Bool :=
  !t.isEmpty && t.length ≤ Config.panelLineMax && t.all fun c => 0x30 ≤ c.toNat && c.toNat ≤ 0x39

/-- R172 to R175: the tags that a refused line carries. -/
def Machine.RefusedLine.wf (r : RefusedLine) : Bool :=
  match r with
  | .unknown tag => wfTag tag
  | .badForm tag _ => wfTag tag
  | _ => true

/-- A command that a line can carry, and an event that its source can give. -/
def Instr.wf (i : Instr) : Bool :=
  match i with
  | .status t | .restart t | .listSlots t | .assembleCancel t | .readRecord t | .acknowledgeTamper t => wfTag t
  | .readSlot t n | .suspendSlot t n | .resumeSlot t n | .eraseSlot t n | .setScrub t n | .removeCustodian t n
  | .unlockCustodian t n | .setDualWindow t n | .readIssue t n | .readPlan t n | .discardDraft t n | .installPlan t n
  | .removePlan t n | .readLane t n | .clearCounters t n => wfTag t && wfNum 8 n
  | .setBudget t n b => wfTag t && wfNum 8 n && wfBudget b
  | .enrolCustodian t n _ l => wfTag t && wfNum 8 n && wfText l
  | .setParityPolicy t _ => wfTag t
  | .assembleBegin t a => wfTag t && a.wf
  | .openIssue t n _ f l st th => wfTag t && wfNum 8 n && wfNum 8 f && wfNum 8 l && wfNum 8 st && wfNum 8 th
  | .extendIssue t n l | .setIssueWarning t n l => wfTag t && wfNum 8 n && wfNum 8 l
  | .readPlanStep t p _ k => wfTag t && wfNum 8 p && wfNum 8 k
  | .editPlanSet t p k _ a _ | .editPlanInsert t p k _ a _ => wfTag t && wfNum 8 p && wfNum 7 k && a.wf
  | .editPlanDelete t p k _ => wfTag t && wfNum 8 p && wfNum 7 k
  | .editPlanLabel t p l _ => wfTag t && wfNum 8 p && wfText l
  | .readWindow t w _ | .clearWindow t w _ => wfTag t && wfNum 8 w
  | .readWindowSummary t _ => wfTag t
  | .setWindow t a _ => wfTag t && a.wf
  | .setWindowEnabled t w _ _ _ => wfTag t && wfNum 8 w
  | .setDefaultRoute t r => wfTag t && wfRoute r
  | .queueRun t n p c g => wfTag t && wfNum 8 n && wfNum 8 p && wfNum 8 c && wfNum 8 g
  | .abortLane t n _ => wfTag t && wfNum 8 n
  | .setLane t n _ r _ => wfTag t && wfNum 8 n && wfNum 8 r
  | .readRecordEntry t n o _ | .readRecordVoided t n o _ | .readRecordNotes t n o _ | .discardRecord t n o =>
    wfTag t && wfNum 8 n && wfNum 8 o
  | .readRecordDelivery t n o k => wfTag t && wfNum 8 n && wfNum 8 o && wfNum 8 k
  | .linkLineRefused w => w.wf
  | .newcode n c a => wfId n && wfDigits c && wfDigits a
  | .logon n c => wfId n && wfDigits c
  | .logoff n | .confirmYes n | .confirmNo n => wfId n
  | .component n k => wfId n && !k.isEmpty && 2 * k.length ≤ Config.panelLineMax
  | .benchFrameReceived _ _ body _ _ => body.length ≤ Config.bodyMax
  | .linkTransmitEnd | .showPanel | .panelLineRefused _ | .panelReplySent | .dualWindowExpiry | .scrubTimerExpiry
  | .cipherOperationComplete _ | .transmitStart _ | .transmitEnd _ | .bodyLengthOverlong _ | .gapTimerExpiry _
  | .stepTimerExpiry _ | .cradleContactChange _ _ | .settleTimerExpiry _ | .reservationRetry _ | .tamperEvent
  | .tamperPowerOff | .powerOn | .startUpAfterRestart | .powerLoss | .selfTestComplete _ _ _ _
  | .benchCharacterReceived _ _ _ _ | .linkCharacterReceived _ | .panelCharacterReceived _ | .panelMessageSent => true

end Sys2Proof
end

