-- ==== Sys2Proof/Safety.lean ====
section
/-! DEFINITION. What the statements speak of: when a command is taken, how its answer leaves, and the laws that every step
keeps. -/

namespace Sys2Proof.Machine

/-! ## When a request is taken, and its answer (chapter 10) -/

/-- R172, R178: the receiver collects and no reply waits or goes out, so that a line is handled as it ends. -/
abbrev LinkReady (s : State) : Prop := s.link.rx = .collecting ∧ s.link.replyBusy = false
/-- An OPERATOR-level request reaches its owner. -/
abbrev OperatorReady (s : State) : Prop := LinkReady s ∧ s.mode = .normal
/-- A CUSTODIAN-level request reaches its owner (R39). -/
abbrev CustodianReady (s : State) : Prop := OperatorReady s ∧ s.auth.state = .dual
/-- A request at `level` reaches its owner. -/
abbrev LevelReady (level : Level) (s : State) : Prop :=
  OperatorReady s ∧ (level = .custodian → s.auth.state = .dual)

/-- R176, Table 10-4: the level at which a request stands, with its tag; none for what is no request. ENROL-CUSTODIAN is a
CUSTODIAN-level request, with an exception to its admission (R28). -/
def requestOf : Instr → Option (Level × Text)
  | .status t | .restart t | .listSlots t | .readSlot t _ | .readIssue t _ | .readPlan t _ | .readPlanStep t _ _ _
  | .editPlanSet t _ _ _ _ _ | .editPlanInsert t _ _ _ _ _ | .editPlanDelete t _ _ _ | .editPlanLabel t _ _ _
  | .discardDraft t _ | .queueRun t _ _ _ _ | .abortLane t _ _ | .setLane t _ _ _ _ | .readLane t _ | .clearCounters t _
  | .readRecord t | .readRecordEntry t _ _ _ | .readRecordDelivery t _ _ _ | .readRecordVoided t _ _ _
  | .readRecordNotes t _ _ _ | .discardRecord t _ _ => some (.operator, t)
  | .suspendSlot t _ | .resumeSlot t _ | .eraseSlot t _ | .setBudget t _ _ | .setScrub t _ | .enrolCustodian t _ _ _
  | .removeCustodian t _ | .unlockCustodian t _ | .setDualWindow t _ | .setParityPolicy t _ | .assembleBegin t _
  | .assembleCancel t | .openIssue t _ _ _ _ _ _ | .extendIssue t _ _ | .setIssueWarning t _ _ | .installPlan t _
  | .removePlan t _ | .setDefaultRoute t _ | .acknowledgeTamper t => some (.custodian, t)
  | .readWindow t _ lv | .readWindowSummary t lv | .setWindow t _ lv | .setWindowEnabled t _ _ _ lv
  | .clearWindow t _ lv => some (lv, t)
  | _ => none

/-- The state in which an owner finds an OPERATOR-level request: its line has left the buffer. -/
def heard (s : State) : State := setRx .collecting s
/-- The state in which an owner finds a CUSTODIAN-level request: admission has restarted the dual window timer (R38). -/
def heardDual (s : State) : State := restartDual (heard s)
/-- By level. -/
def heardAt (level : Level) (s : State) : State :=
  match level with
  | .operator => heard s
  | .custodian => heardDual s

/-- The reply `tag OK` with its fields waits, and the transmitter takes its next line. -/
def replied (tag : Text) (fields : List Item) (s : State) : State := pump (setReply ((Answer.ok fields).line tag) s)
/-- The refusal `tag ERR code` waits, and the transmitter takes its next line. -/
def refusedWith (tag : Text) (c : ErrCode) (s : State) : State := pump (setReply ((Answer.err c []).line tag) s)

/-- An optional argument, given or left out. -/
def optArg {α : Type} : Option α → Arg α
  | some v => .val v
  | none => .absent

/-! ## When a panel line is taken, and its answer (chapter 2) -/

/-- R32: the panel takes a line as it ends: the port is open, no reply is on its way, no line is held, skipped or
over-long. -/
abbrev PanelReady (s : State) : Prop :=
  panelOpen s = true ∧ panelBusy s = false ∧ s.panel.held = none ∧ s.panel.skip = false ∧ s.panel.long = false
/-- The state in which the panel's command is found. -/
def panelHeard (s : State) : State := { s with panel := s.panel.fresh }
/-- R31, R38: the reply OK joins the output queue and the dual window timer restarts. -/
def panelSaid (items : List Item) (s : State) : State :=
  pump { restartDual s with panel := { s.panel with out := s.panel.out ++ [{ isReply := true, line := .word "OK" :: items }] } }
/-- R31: the reply ERR joins the output queue. -/
def panelErred (e : PanelErr) (s : State) : State :=
  pump { s with panel := { s.panel with out := s.panel.out ++ [{ isReply := true, line := [.word "ERR", .word e.word] }] } }

/-! ## Laws that every step keeps -/

/-- R161: the Record Queue holds at most 48 entries. -/
abbrev RecordsFit (s : State) : Prop := s.records.entries.length ≤ Config.recordPlaces
/-- R179: the notice buffer holds at most 16 lines, and the lost count is a 16-bit number. -/
abbrev NoticesFit (s : State) : Prop := s.link.notices.length ≤ Config.noticePlaces ∧ s.link.lost ≤ Config.word16Max
/-- R105: every run queue holds at most 4 requests. -/
abbrev QueuesFit (s : State) : Prop := ∀ l ∈ s.lanes.toList, l.queue.length ≤ Config.queueMax
/-- R143: the counters of every line are 16-bit numbers. -/
abbrev CountersFit (s : State) : Prop :=
  ∀ l ∈ s.lines.toList, l.checkErr ≤ Config.word16Max ∧ l.unsolicited ≤ Config.word16Max
/-- R34, R37: at most two sessions, of different custodians of the roster, and the authorisation state that follows
from them. -/
abbrev SessionsLawful (s : State) : Prop :=
  s.auth.sessions.length ≤ 2 ∧ s.auth.sessions.Nodup ∧ (∀ n ∈ s.auth.sessions, (s.custodianAt n).isSome) ∧
    s.auth.state = authOf (sessionGroups s)
/-- R53, R68: an issue account exists only for a ROOT slot that is not ASSEMBLING; so an EMPTY slot has none. -/
def AccountsOwned (s : State) : Prop :=
  ∀ n < 64, (s.accountAt n).isSome → ∃ r, s.slotAt n = some r ∧ r.cls = .root ∧ r.state ≠ .assembling
/-- R53, R54, R64: an account's law. N lies from F to L + S, a multiple of S from F; the returned list is ascending
with at most 8 numbers; the numbers are in their ranges. -/
abbrev AccountLawful (a : Account) : Prop :=
  1 ≤ a.step ∧ a.step ≤ 16 ∧ a.first ≤ a.next ∧ a.next ≤ a.last + a.step ∧ a.step ∣ a.next - a.first ∧
    a.last ≤ Config.issueMax ∧ a.threshold ≤ Config.thresholdMax ∧ a.returned.length ≤ Config.returnedMax ∧
    a.returned.Pairwise (· < ·)
/-- R84, R85: every version installed, or retiring with runs on it, has passed install validation. -/
def VersionsValid (s : State) : Prop :=
  ∀ n v, (s.planAt n).installed = some v ∨ (s.planAt n).retiring = some v → draftFault v.steps = none
/-- R1, R9: a finite budget is at most 1,000,000, and the reserved count is at most the budget. -/
def BudgetLawful (s : State) : Prop :=
  ∀ n r al m, s.slotAt n = some r → r.allowance = some al → al.budget = .count m →
    al.reserved ≤ m ∧ m ≤ Config.budgetMax

end Sys2Proof.Machine
end

