-- ==== Sys2Proof/Certificates/Slice0/Obligations.lean ====
section
/-! DEFINITION. The statements for the provers. A request's statement gives the whole next state: the state in which its
owner finds the request (`heard`, `heardDual`), what the owner changes, the reply (`replied`, `refusedWith`), and nothing
else; so every field that the equation does not name is unchanged. -/

open Sys2Proof Sys2Proof.Machine

/-! ## The queue of commands -/

/-- The block takes the command at the front of its queue, with the queue's rest; on an empty queue it idles, which is the
model's choice (entry 3). Every command answers a next state in every state: a request out of place gets its refusal (R175,
R177), and an event that cannot occur in the state it finds changes nothing, which is the model's choice (entry 5). No
command touches the queue, which is the model's own. -/
def Obligations.StepTakesFront : Prop :=
  ((∀ (c : Instr) (s : State) (q : List Instr), step { s with pending := c :: q } = exec c { s with pending := q }) ∧
   (∀ s : State, s.pending = [] → step s = .next s)) ∧
  (∀ (c : Instr) (s : State), ∃ t, exec c s = .next t) ∧
  (∀ (c : Instr) (s t : State), exec c s = .next t → t.pending = s.pending)

/-- R175: a refused request changes nothing in any block, except that an admitted CUSTODIAN-level request restarts the
dual window timer (R38). An answer that is a refusal is `tag ERR …`; a CUSTODIAN-level request is admitted in DUAL, in the
mode NORMAL (R39). -/
def Obligations.RefusedRequestChangesNothing : Prop :=
  ∀ (i : Instr) (s : State) (l : Line) (lv : Level) (tag : Text), requestOf i = some (lv, tag) → LinkReady s →
    (lineEnds (.request i) s).link.reply = some l → l[1]? = some (.word "ERR") →
    (lv = .operator ∨ s.mode = .failed ∨ s.auth.state ≠ .dual → lineEnds (.request i) s = setReply l (heard s)) ∧
    (lv = .custodian → s.mode = .normal → s.auth.state = .dual → lineEnds (.request i) s = setReply l (heardDual s))

/-- R39, R175, R176: outside DUAL every CUSTODIAN-level request is refused NOT-AUTHORISED, changes nothing, and does not
touch the dual window timer (the window requests are at that level when they say so, R92; ENROL-CUSTODIAN is refused unless
its group is A or B and has no ENROLLED member, R28). In FAILED mode every request but STATUS is refused FAILED and changes
nothing. -/
def Obligations.RequestsNotAdmitted : Prop :=
  (∀ (s : State) (tag : Text) (i : Instr), OperatorReady s → s.auth.state ≠ .dual → requestOf i = some (.custodian, tag) →
     (∀ n g l, i = .enrolCustodian tag n (.val g) l → groupEnrolled g s = true) →
     exec i s = .next (refusedWith tag .notAuthorised (heard s))) ∧
  (∀ (s : State) (i : Instr) (lv : Level) (tag : Text), LinkReady s → s.mode = .failed → requestOf i = some (lv, tag) →
     i ≠ .status tag → exec i s = .next (refusedWith tag .failed (heard s)))

/-! ## Key Store and Cipher Unit (chapter 1) -/

/-- R5, R6, R7: SUSPEND-SLOT, RESUME-SLOT and ERASE-SLOT on a slot whose state takes them, and on one that does not:
WRONG-STATE, IN-USE, and RANGE for a number that is no slot's. -/
def Obligations.SlotStateRequests : Prop :=
  (∀ (s : State) (tag : Text) (n : Nat) (r : SlotRec), CustodianReady s → n < 64 → s.slotAt n = some r →
     (r.state = .active → exec (.suspendSlot tag (.val n)) s =
       .next (replied tag [.field "SLOT" (.num n), .field "STATE" (.word "SUSPENDED")]
         ((heardDual s).setSlot n (some { r with state := .suspended })))) ∧
     (r.state = .suspended → exec (.resumeSlot tag (.val n)) s =
       .next (replied tag [.field "SLOT" (.num n), .field "STATE" (.word "ACTIVE")]
         ((heardDual s).setSlot n (some { r with state := .active })))) ∧
     (r.bound = [] → r.state ≠ .assembling → exec (.eraseSlot tag (.val n)) s =
       .next (replied tag [.field "SLOT" (.num n), .field "STATE" (.word "EMPTY")]
         (((heardDual s).setSlot n none).setAccount n none)))) ∧
  (∀ (s : State) (tag : Text) (n : Nat), CustodianReady s → n < 10 ^ 8 →
     (64 ≤ n → ∀ i ∈ [Instr.suspendSlot tag (.val n), .resumeSlot tag (.val n), .eraseSlot tag (.val n)],
       exec i s = .next (refusedWith tag .range (heardDual s))) ∧
     (n < 64 → ((s.slotAt n).map SlotRec.state ≠ some .active →
       exec (.suspendSlot tag (.val n)) s = .next (refusedWith tag .wrongState (heardDual s))) ∧
     ((s.slotAt n).map SlotRec.state ≠ some .suspended →
       exec (.resumeSlot tag (.val n)) s = .next (refusedWith tag .wrongState (heardDual s))) ∧
     (s.slotAt n = none →
       exec (.eraseSlot tag (.val n)) s = .next (refusedWith tag .wrongState (heardDual s))) ∧
     (∀ r, s.slotAt n = some r → r.bound = [] → r.state = .assembling →
       exec (.eraseSlot tag (.val n)) s = .next (refusedWith tag .wrongState (heardDual s))) ∧
     (∀ r, s.slotAt n = some r → r.bound ≠ [] →
       exec (.eraseSlot tag (.val n)) s = .next (refusedWith tag .inUse (heardDual s)))))

/-- R10, R14, R43: SET-BUDGET with a value that is taken, and its refusals in order (in the model a slot has an allowance
exactly when it is ROOT or DIRECT, R1); SET-SCRUB clamps, stores and starts or stops the timer; SET-PARITY-POLICY stores. -/
def Obligations.KeySettings : Prop :=
  (∀ (s : State) (tag : Text) (n : Nat) (b : Budget), CustodianReady s → n < 64 →
     (∀ m, b = .count m → 1000000 < m → m < 10 ^ 8 →
       exec (.setBudget tag (.val n) (.val b)) s = .next (refusedWith tag .range (heardDual s))) ∧
     ((∀ m, b = .count m → m ≤ 1000000) →
       ((∀ r, s.slotAt n = some r → r.state = .assembling ∨ r.allowance = none) →
         exec (.setBudget tag (.val n) (.val b)) s = .next (refusedWith tag .wrongState (heardDual s))) ∧
       (∀ r al, s.slotAt n = some r → r.state ≠ .assembling → r.allowance = some al →
         ((∃ m, b = .count m ∧ m < al.reserved) →
           exec (.setBudget tag (.val n) (.val b)) s = .next (refusedWith tag .range (heardDual s))) ∧
         ((∀ m, b = .count m → al.reserved ≤ m) →
           exec (.setBudget tag (.val n) (.val b)) s =
             .next (replied tag [.field "SLOT" (.num n), .field "BUDGET" b.value, .field "RESERVED" (.num al.reserved)]
               ((heardDual s).setSlot n (some { r with allowance := some { al with budget := b } }))))))) ∧
  (∀ (s : State) (tag : Text) (v : Nat) (p : Policy), CustodianReady s → v < 10 ^ 8 →
     exec (.setScrub tag (.val v)) s =
       .next (replied tag [.field "INTERVAL" (.num (min 3600 v))]
         { heardDual s with keys := { s.keys with
             scrubInterval := min 3600 v, scrubTimer := if v = 0 then none else some (min 3600 v) } }) ∧
     exec (.setParityPolicy tag (.val p)) s =
       .next (replied tag [.field "POLICY" (.word (match p with | .strict => "STRICT" | .adjust => "ADJUST"))]
         { heardDual s with asm := { s.asm with policy := p } }))

/-- R8: LIST-SLOTS and READ-SLOT answer from the slots as they stand and change nothing. -/
def Obligations.SlotReads : Prop :=
  ∀ (s : State) (tag : Text) (n : Nat), OperatorReady s → n < 64 →
    exec (.listSlots tag) s = .next (replied tag [.field "STATES" (.raw (s.keys.slots.toList.map slotLetter))] (heard s)) ∧
    (s.slotAt n = none →
      exec (.readSlot tag (.val n)) s = .next (replied tag [.field "STATE" (.word "EMPTY")] (heard s))) ∧
    (∀ r, s.slotAt n = some r → exec (.readSlot tag (.val n)) s =
      .next (replied tag
        (List.flatten
          [[.field "STATE" (.word r.state.word), .field "CLASS" (.word r.cls.word),
              .field "ALG" (.word r.alg.family.word), .field "LEN" (.num r.alg.keyLen)],
            (r.material.map fun m => Item.field "CV" (.hex 6 m.cv.toNat)).toList,
            [.field "LABEL" (.label r.label), .field "KVER" (.num r.kver)],
            (match r.allowance with
              | some al => [.field "BUDGET" al.budget.value, .field "RESERVED" (.num al.reserved)]
              | none => []),
            [.field "BOUND" (.raw (commaList (r.bound.map fun b => dec b.lane)))]]) (heard s)))

/-- R1, R8: no reply to a reading request carries a slot's key or integrity tag: two modules that differ in them alone
answer alike. STATUS, and every LIST and READ request, with any arguments, the window reads at either level. -/
def Obligations.KeysNotShown : Prop :=
  ∀ (s t t' : State) (n : Nat) (r : SlotRec) (m m' : Material) (i : Instr) (tag : Text), OperatorReady s →
    s.slotAt n = some r → r.material = some m → m'.cv = m.cv →
    (i ∈ [.status tag, .listSlots tag, .readRecord tag] ∨
      (∃ k, i ∈ [.readSlot tag k, .readIssue tag k, .readPlan tag k, .readLane tag k]) ∨
      (∃ p w k, i = .readPlanStep tag p w k) ∨
      (∃ k lv, i ∈ [.readWindow tag k lv, .readWindowSummary tag lv]) ∨
      (∃ a o b, i ∈ [.readRecordEntry tag a o b, .readRecordVoided tag a o b, .readRecordNotes tag a o b]) ∨
      (∃ a o k, i = .readRecordDelivery tag a o k)) →
    exec i s = .next t → exec i (s.setSlot n (some { r with material := some m' })) = .next t' →
    t'.link = t.link

/-- R11, R13: a release after a granted bind request, with nothing between, gives the slots back as they were. -/
def Obligations.ReleaseUndoesBinding : Prop :=
  ∀ (s t : State) (lane : Nat) (loads : List (Nat × Step)),
    (∀ n r, s.slotAt n = some r → ∀ b ∈ r.bound, b.lane ≠ lane) →
    bindSlots lane loads s = .ok t → releaseLane lane t = s

/-- R9, R11, R12, R13: a slot's reserved count is at most its budget whenever the budget is not UNLIMITED, and a budget
is at most 1,000,000: every step of the module keeps this. -/
def Obligations.BudgetLawKept : Prop :=
  ∀ s t : State, BudgetLawful s → step s = .next t → BudgetLawful t

/-- R14, R15, R16: an expiry of the scrub timer starts it again, and posts a TAG for the next slot that is not EMPTY,
cyclically after the pointer; while the scrubber's request waits, or with every slot EMPTY, it posts nothing and leaves the
pointer. Posted while the unit is free, the TAG starts at once, or is skipped for a slot that is ASSEMBLING (R19, R21). It
completes with nothing waiting: a slot in use whose contents do not produce its stored tag becomes FAULTED and is reported;
one that agrees is unchanged; a changed entry number drops the result. Of damaged contents entry 6 speaks. -/
def Obligations.Scrubber : Prop :=
  (∀ (s : State) (i n : Nat) (k : BitVec 16) (r : SlotRec) (u : KeyStore), s.keys.scrubTimer.isSome →
     look s.cipher.waiting none 9 = none → i < 64 → n = (s.keys.scrubPointer + 1 + i) % 64 → s.slotAt n = some r →
     (∀ j < i, s.slotAt ((s.keys.scrubPointer + 1 + j) % 64) = none) → k = look s.keys.entryNos 0 n →
     u = { s.keys with scrubTimer := some s.keys.scrubInterval, scrubPointer := n } →
     (s.cipher.executing.isSome → exec .scrubTimerExpiry s = .next (pump { s with
       keys := u, cipher := { s.cipher with waiting := put s.cipher.waiting 9 (some (.scrub n k)) } })) ∧
     (s.cipher.executing = none → s.cipher.selfTest = false → s.mode = .normal →
       (r.state ≠ .assembling → exec .scrubTimerExpiry s = .next (pump { s with
         keys := u
         cipher := { s.cipher with
           last := 9
           executing := some
             { requester := 9, request := .scrub n k, input := .tag r.cls r.alg (s.slotKey n) r.kver r.label,
               dropped := false } } })) ∧
       (r.state = .assembling → exec .scrubTimerExpiry s = .next (pump { s with
         keys := u, cipher := { s.cipher with last := 9 } })))) ∧
  (∀ s : State, s.keys.scrubTimer.isSome →
     ((look s.cipher.waiting none 9).isSome ∨ ∀ n < 64, s.slotAt n = none) →
     exec .scrubTimerExpiry s =
       .next (pump { s with keys := { s.keys with scrubTimer := some s.keys.scrubInterval } })) ∧
  (∀ (s : State) (e : Executing) (n : Nat) (k : BitVec 16) (r : SlotRec) (m : Material) (intact : Bool) (tag : Text)
     (cls : KeyClass) (alg : AlgPair) (key : Text) (kver : Nat) (label : Text), s.cipher.executing = some e →
     e.request = .scrub n k → e.input = .tag cls alg key kver label → tag = Config.cipher.tag cls alg key kver label →
     e.dropped = false → (∀ q < 10, look s.cipher.waiting none q = none) → s.slotAt n = some r → r.material = some m →
     (k = look s.keys.entryNos 0 n → (r.state = .active ∨ r.state = .suspended) → (intact = false ∨ tag ≠ m.tag) →
       exec (.cipherOperationComplete intact) s =
         .next (pump (raiseNotice [.word "!", .word "SLOT-FAULT", .field "SLOT" (.num n)]
           { s.setSlot n (some { r with state := .faulted }) with cipher := { s.cipher with executing := none } }))) ∧
     ((intact = true ∧ tag = m.tag) ∨ r.state = .faulted ∨ k ≠ look s.keys.entryNos 0 n →
       exec (.cipherOperationComplete intact) s =
         .next (pump { s with cipher := { s.cipher with executing := none } })))

/-- R19, R22: when an operation that a tamper event marked completes, its output reaches no requester, and the unit
serves the first waiting requester after the one served last, in the cyclic order. -/
def Obligations.ArbiterServesInTurn : Prop :=
  ∀ (s : State) (e : Executing) (i : Nat) (req : CipherRequest) (intact : Bool),
    s.cipher.executing = some e → e.dropped = true → s.cipher.selfTest = false → s.mode = .normal → i < 10 →
    look s.cipher.waiting none ((s.cipher.last + 1 + i) % 10) = some req →
    (∀ j < i, look s.cipher.waiting none ((s.cipher.last + 1 + j) % 10) = none) →
    startCheck s req = .started →
    exec (.cipherOperationComplete intact) s = .next (pump { s with cipher := { s.cipher with
      waiting := put s.cipher.waiting ((s.cipher.last + 1 + i) % 10) none
      last := (s.cipher.last + 1 + i) % 10
      executing := some { requester := (s.cipher.last + 1 + i) % 10, request := req, input := inputOf s req,
                          dropped := false } } })

/-! ## Custodians, sessions and assembly (chapter 2) -/

/-- R28, R29: ENROL-CUSTODIAN of an EMPTY entry, in any authorisation state for a group with no ENROLLED member, in DUAL
otherwise, LABEL given or left out, and its refusals in R28's order: RANGE, BAD-SYNTAX, WRONG-STATE; that RANGE comes first
also where GROUP is missing is entry 10. REMOVE-CUSTODIAN empties the entry, or is refused RANGE, WRONG-STATE or IN-USE. -/
def Obligations.RosterRequests : Prop :=
  (∀ (s : State) (tag : Text) (n : Nat) (g : Group) (label : Option Text), OperatorReady s →
     (groupEnrolled g s = true → s.auth.state = .dual) → 1 ≤ n → n ≤ 12 → s.custodianAt n = none →
     (∀ l, label = some l → l.length ≤ 12 ∧ l.all isPrintable = true) →
     exec (.enrolCustodian tag (.val n) (.val g) (optArg label)) s =
       .next (replied tag [.field "ID" (.num n), .field "STATE" (.word "PENDING"), .field "GROUP" (.word g.word),
           .field "LABEL" (.label (label.getD []))]
         ((heardDual s).setCustodian n
           (some { state := .pending, group := g, label := label.getD [], verifier := none, failed := 0 })))) ∧
  (∀ (s : State) (tag : Text) (n : Nat) (group : Arg Group) (label : Arg Text), OperatorReady s →
     ((∀ g, group = .val g → groupEnrolled g s = true) → s.auth.state = .dual) → n < 10 ^ 8 →
     ((n = 0 ∨ 12 < n) →
       exec (.enrolCustodian tag (.val n) group label) s = .next (refusedWith tag .range (heardDual s))) ∧
     (1 ≤ n → n ≤ 12 →
       ((∀ g, group ≠ .val g) ∨ (∃ l, label = .val l ∧ (12 < l.length ∨ l.all isPrintable = false)) →
         exec (.enrolCustodian tag (.val n) group label) s = .next (refusedWith tag .badSyntax (heardDual s))) ∧
       (∀ g l, group = .val g → label = optArg l → (∀ x, l = some x → x.length ≤ 12 ∧ x.all isPrintable = true) →
         (s.custodianAt n).isSome →
         exec (.enrolCustodian tag (.val n) group label) s = .next (refusedWith tag .wrongState (heardDual s))))) ∧
  (∀ (s : State) (tag : Text) (n : Nat), CustodianReady s → n < 10 ^ 8 →
     ((n = 0 ∨ 12 < n) →
       exec (.removeCustodian tag (.val n)) s = .next (refusedWith tag .range (heardDual s))) ∧
     (1 ≤ n → n ≤ 12 →
       (s.custodianAt n = none →
         exec (.removeCustodian tag (.val n)) s = .next (refusedWith tag .wrongState (heardDual s))) ∧
       (∀ c, s.custodianAt n = some c →
         (n ∈ s.auth.sessions →
           exec (.removeCustodian tag (.val n)) s = .next (refusedWith tag .inUse (heardDual s))) ∧
         (n ∉ s.auth.sessions →
           exec (.removeCustodian tag (.val n)) s =
             .next (replied tag [.field "ID" (.num n), .field "STATE" (.word "EMPTY")]
               ((heardDual s).setCustodian n none))))))

/-- R30: UNLOCK-CUSTODIAN moves a LOCKED entry to PENDING, erases the verifier and sets the count to 0; RANGE and
WRONG-STATE otherwise; an entry that is PENDING is refused a logon until NEWCODE. -/
def Obligations.UnlockCustodian : Prop :=
  (∀ (s : State) (tag : Text) (n : Nat), CustodianReady s → n < 10 ^ 8 →
    ((n = 0 ∨ 12 < n) →
      exec (.unlockCustodian tag (.val n)) s = .next (refusedWith tag .range (heardDual s))) ∧
    (1 ≤ n → n ≤ 12 →
      ((s.custodianAt n).map Custodian.state ≠ some .locked →
        exec (.unlockCustodian tag (.val n)) s = .next (refusedWith tag .wrongState (heardDual s))) ∧
      (∀ c, s.custodianAt n = some c → c.state = .locked →
        exec (.unlockCustodian tag (.val n)) s =
          .next (replied tag [.field "ID" (.num n), .field "STATE" (.word "PENDING")]
            ((heardDual s).setCustodian n (some { c with state := .pending, verifier := none, failed := 0 })))))) ∧
  (∀ (s : State) (n : Nat) (c : Custodian) (code : Text), PanelReady s → 1 ≤ n → n ≤ 12 → isPasscode code = true →
    s.custodianAt n = some c → c.state = .pending →
    exec (.logon n code) s = .next (panelErred .notEnrolled (panelHeard s)))

/-- R40: the dual window is a non-volatile setting of 60 to 1,800 s with factory value 300; SET-DUAL-WINDOW clamps, and
its admission starts the timer from the new value; outside DUAL it is not taken. -/
def Obligations.SetDualWindow : Prop :=
  State.factory.auth.dualWindow = 300 ∧
  (∀ (s : State) (tag : Text) (v : Nat), v < 10 ^ 8 →
    (CustodianReady s → exec (.setDualWindow tag (.val v)) s =
      .next (replied tag [.field "SECONDS" (.num (if v < 60 then 60 else if 1800 < v then 1800 else v))]
        { heard s with auth := { s.auth with
            dualWindow := if v < 60 then 60 else if 1800 < v then 1800 else v
            dualTimer := some (if v < 60 then 60 else if 1800 < v then 1800 else v) } })) ∧
    (OperatorReady s → s.auth.state ≠ .dual →
      exec (.setDualWindow tag (.val v)) s = .next (refusedWith tag .notAuthorised (heard s)))) ∧
  (∀ (s t : State) (a b c d : Bool),
    (exec .powerLoss s = .next t ∨ exec .powerOn s = .next t ∨ exec .startUpAfterRestart s = .next t ∨
      exec (.selfTestComplete a b c d) s = .next t) → t.auth.dualWindow = s.auth.dualWindow)

/-- R33, R34, R37, R38: NEWCODE sets the passcode of a PENDING entry, in any authorisation state, and is refused in order.
LOGON makes its checks in order: RANGE, NOT-ENROLLED, LOCKED, ALREADY, PANEL-FULL, the passcode. A wrong passcode costs one
failed logon and nothing else, and the third locks the entry. A good logon adds the session and sets the count to 0; the
state is DUAL exactly when the other session is of the other group, and the dual window timer then starts from the full
window; nothing but the ports and the Authorisation Unit changes. That the verifier is the passcode itself, so that any
other passcode is a wrong one, is the model's reading (entry 7). -/
def Obligations.PasscodeLines : Prop :=
  (∀ (s : State) (n : Nat) (code again : Text), PanelReady s →
     (n = 0 ∨ 12 < n ∨ isPasscode code = false ∨ isPasscode again = false →
       exec (.newcode n code again) s = .next (panelErred .range (panelHeard s))) ∧
     (1 ≤ n → n ≤ 12 → isPasscode code = true → isPasscode again = true →
       ((s.custodianAt n).map Custodian.state ≠ some .pending →
         exec (.newcode n code again) s = .next (panelErred .wrongState (panelHeard s))) ∧
       (∀ c, s.custodianAt n = some c → c.state = .pending →
         (code ≠ again → exec (.newcode n code again) s = .next (panelErred .mismatch (panelHeard s))) ∧
         (code = again → exec (.newcode n code again) s =
           .next (panelSaid [.word "NEWCODE", .field "ID" (.num n), .field "STATE" (.word "ENROLLED")]
             ((panelHeard s).setCustodian n
               (some { c with state := .enrolled, verifier := some ⟨code⟩, failed := 0 }))))))) ∧
  (∀ (s : State) (n : Nat) (code : Text), PanelReady s →
     (n = 0 ∨ 12 < n ∨ isPasscode code = false →
       exec (.logon n code) s = .next (panelErred .range (panelHeard s))) ∧
     (1 ≤ n → n ≤ 12 → isPasscode code = true →
       (s.custodianAt n = none → exec (.logon n code) s = .next (panelErred .notEnrolled (panelHeard s))) ∧
       (∀ c, s.custodianAt n = some c →
         (c.state = .pending → exec (.logon n code) s = .next (panelErred .notEnrolled (panelHeard s))) ∧
         (c.state = .locked → exec (.logon n code) s = .next (panelErred .locked (panelHeard s))) ∧
         (c.state = .enrolled →
           (n ∈ s.auth.sessions → exec (.logon n code) s = .next (panelErred .already (panelHeard s))) ∧
           (n ∉ s.auth.sessions → 2 ≤ s.auth.sessions.length →
             exec (.logon n code) s = .next (panelErred .panelFull (panelHeard s))))))) ∧
  (∀ (s : State) (n : Nat) (c : Custodian) (code : Text), PanelReady s → 1 ≤ n → n ≤ 12 → isPasscode code = true →
     s.custodianAt n = some c → c.state = .enrolled → n ∉ s.auth.sessions → s.auth.sessions.length < 2 →
     c.verifier ≠ some ⟨code⟩ →
     (c.failed < 2 → exec (.logon n code) s =
       .next (panelErred .denied ((panelHeard s).setCustodian n (some { c with failed := c.failed + 1 })))) ∧
     (2 ≤ c.failed → exec (.logon n code) s =
       .next (panelErred .locked
         ((panelHeard s).setCustodian n (some { c with failed := c.failed + 1, state := .locked }))))) ∧
  (∀ (s : State) (n : Nat) (c : Custodian) (code : Text), PanelReady s → SessionsLawful s → 1 ≤ n → n ≤ 12 →
     isPasscode code = true → s.custodianAt n = some c → c.state = .enrolled → n ∉ s.auth.sessions →
     s.auth.sessions.length < 2 → c.verifier = some ⟨code⟩ →
     ∃ t, exec (.logon n code) s = .next t ∧
       t.auth.sessions = insertAsc n s.auth.sessions ∧ t.custodianAt n = some { c with failed := 0 } ∧
       (∀ k, k ≠ n → t.custodianAt k = s.custodianAt k) ∧
       (s.auth.sessions = [] → t.auth.state = .single) ∧
       (∀ k d, s.auth.sessions = [k] → s.custodianAt k = some d →
         (d.group = c.group → t.auth.state = .single) ∧
         (d.group ≠ c.group → t.auth.state = .dual ∧ t.auth.dualTimer = some s.auth.dualWindow)) ∧
       t.panel.out[s.panel.out.length]? = some { isReply := true, line :=
         [.word "OK", .word "LOGON", .field "ID" (.num n), .field "LABEL" (.label c.label),
           .field "AUTH" (.word t.auth.state.word)] } ∧
       t = { s with auth := t.auth, panel := t.panel, link := t.link })

/-- R35, R37, R38, R49, R50: LOGOFF ends the session; the state left is SINGLE while another session stands, else NONE; an
assembly that is open is cancelled at NONE. The expiry of the dual window in DUAL ends both sessions and cancels the open
assembly; with the timer stopped it changes nothing, which is the model's choice (entry 4). -/
def Obligations.SessionsEnd : Prop :=
  (∀ (s : State) (n : Nat), PanelReady s → SessionsLawful s → 1 ≤ n → n ≤ 12 →
     (n ∉ s.auth.sessions → exec (.logoff n) s = .next (panelErred .notLoggedOn (panelHeard s))) ∧
     (n ∈ s.auth.sessions → ∃ t, exec (.logoff n) s = .next t ∧
       t.auth.sessions = s.auth.sessions.filter (· ≠ n) ∧ t.auth.roster = s.auth.roster ∧
       t.auth.state = (if s.auth.sessions.length = 1 then .none else .single) ∧
       (s.auth.sessions.length = 1 → t.asm.record = none ∧
         ∀ a, s.asm.record = some a → a.slot < 64 → t.slotAt a.slot = none) ∧
       (s.asm.record = none → t = { s with auth := t.auth, panel := t.panel, link := t.link }))) ∧
  (∀ s : State,
     (s.auth.dualTimer = none → exec .dualWindowExpiry s = .next (pump s)) ∧
     (s.auth.dualTimer.isSome → s.auth.state = .dual → ∃ t, exec .dualWindowExpiry s = .next t ∧
       t.auth = { s.auth with sessions := [], state := .none, dualTimer := none } ∧ t.asm.record = none ∧
       (∀ a, s.asm.record = some a → a.slot < 64 → t.slotAt a.slot = none) ∧
       (s.asm.record = none → t = { s with auth := t.auth, panel := t.panel, link := t.link })))

/-- R36: SHOW gives the authorisation state, the ids and the open assembly, in any authorisation state, and changes
nothing. A line answered OK restarts the dual window timer (`panelSaid`, R38). -/
def Obligations.Show : Prop :=
  ∀ s : State, PanelReady s →
    exec .showPanel s = .next (panelSaid
      (List.flatten
        [[.word "SHOW", .field "AUTH" (.word s.auth.state.word),
          .field "IDS" (.raw (if s.auth.sessions = [] then txt "NONE"
            else ((s.auth.sessions.map dec).intersperse (txt ",")).flatten))],
        (match s.asm.record with
          | none => [.field "ASSEMBLY" (.word "NONE")]
          | some a =>
            [.field "ASSEMBLY" (.num a.slot), .field "PARTS" (.num a.parts),
              .field "DONE" (.raw (if a.done = [] then txt "NONE"
                else ((a.done.map fun p => dec p.1).intersperse (txt ",")).flatten)),
              .field "HELD" (match a.held with | some h => .num h.id | none => .word "NONE")])])
      (panelHeard s))

/-- R31, R32: a panel line that the port refuses changes nothing but the panel's queue; the output queue sends its lines in
order, and a reply that has gone out lets the held line be handled; a character joins the line while there is room, and the
LF of a CR LF ends the line, which is handled as the command or refusal that its text is, or as ERR LONG when it was longer.
That a CR is remembered until its LF, and that any character but these two joins the line, is the model's choice (entry
20). -/
def Obligations.PanelPort : Prop :=
  (∀ s : State, PanelReady s →
     exec (.panelLineRefused .long) s = .next (panelErred .long (panelHeard s)) ∧
     exec (.panelLineRefused .unknown) s = .next (panelErred .unknown (panelHeard s)) ∧
     exec (.panelLineRefused .badSyntax) s = .next (panelErred .badSyntax (panelHeard s))) ∧
  (∀ (s : State) (l : Line) (rest : List PanelOut),
     (s.panel.out = { isReply := false, line := l } :: rest →
       exec .panelMessageSent s = .next (pump { s with panel := { s.panel with out := rest } })) ∧
     (s.panel.out = { isReply := true, line := l } :: rest →
       (s.panel.held = none → exec .panelReplySent s = .next (pump { s with panel := { s.panel with out := rest } })) ∧
       (∀ w, s.panel.held = some w → exec .panelReplySent s =
         .next (pump (handlePanel w { s with panel := { s.panel with out := rest, held := none } }))))) ∧
  (∀ (s : State), panelOpen s = true → s.panel.held = none → s.panel.skip = false →
     (s.panel.cr = true → s.panel.long = true → panelBusy s = false →
       exec (.panelCharacterReceived 0x0A) s = .next (panelErred .long (panelHeard s)))) ∧
  (∀ (s : State) (c : Byte), panelOpen s = true → s.panel.held = none → s.panel.skip = false → s.panel.long = false →
     (s.panel.cr = false → c ≠ 0x0D → s.panel.buffer.length = 120 →
       exec (.panelCharacterReceived c) s =
         .next (pump { s with panel := { s.panel with buffer := [], long := true } })) ∧
     (s.panel.cr = false → c ≠ 0x0D → s.panel.buffer.length < 120 →
       exec (.panelCharacterReceived c) s =
         .next (pump { s with panel := { s.panel with buffer := s.panel.buffer ++ [c] } })) ∧
     (s.panel.cr = false →
       exec (.panelCharacterReceived 0x0D) s = .next (pump { s with panel := { s.panel with cr := true } })) ∧
     (s.panel.cr = true →
       (∀ w, readPanel s.panel.buffer = .refused w →
         exec (.panelCharacterReceived 0x0A) s = exec (.panelLineRefused w) s) ∧
       (∀ i, readPanel s.panel.buffer = .command i → exec (.panelCharacterReceived 0x0A) s = exec i s)))

/-- R42: ASSEMBLE-BEGIN with every argument in its range, and its refusals in order. -/
def Obligations.AssembleBegin : Prop :=
  ∀ (s : State) (tag : Text) (slot len parts kver : Nat) (cls : KeyClass) (family : Family) (alg : AlgPair)
    (cv : Option CheckValue) (label : Text) (budget : Option Budget), CustodianReady s →
    slot < 64 → algPair? family len = some alg → parts = 2 ∨ parts = 3 → kver ≤ 255 → label.length ≤ 16 →
    label.all isPrintable = true → (cls = .transport ↔ budget = none) →
    (∀ m, budget = some (.count m) → m ≤ 1000000) →
    (s.latch = true →
      exec (.assembleBegin tag
        { slot := .val slot, cls := .val cls, family := .val family, len := .val len, parts := .val parts,
          cv := optArg cv, label := .val label, kver := .val kver, budget := optArg budget }) s =
        .next (refusedWith tag .tampered (heardDual s))) ∧
    (s.latch = false → s.asm.record.isSome →
      exec (.assembleBegin tag
        { slot := .val slot, cls := .val cls, family := .val family, len := .val len, parts := .val parts,
          cv := optArg cv, label := .val label, kver := .val kver, budget := optArg budget }) s =
        .next (refusedWith tag .busy (heardDual s))) ∧
    (s.latch = false → s.asm.record = none → (s.slotAt slot).isSome →
      exec (.assembleBegin tag
        { slot := .val slot, cls := .val cls, family := .val family, len := .val len, parts := .val parts,
          cv := optArg cv, label := .val label, kver := .val kver, budget := optArg budget }) s =
        .next (refusedWith tag .wrongState (heardDual s))) ∧
    (s.latch = false → s.asm.record = none → s.slotAt slot = none →
      exec (.assembleBegin tag
        { slot := .val slot, cls := .val cls, family := .val family, len := .val len, parts := .val parts,
          cv := optArg cv, label := .val label, kver := .val kver, budget := optArg budget }) s =
        .next (replied tag
          [.field "SLOT" (.num slot), .field "STATE" (.word "ASSEMBLING"), .field "PARTS" (.num parts)]
          { (heardDual s).setSlot slot (some
              { state := .assembling, cls := cls, alg := alg, label := label, kver := kver,
                allowance := budget.map fun b => { budget := b, reserved := 0 }, bound := [], material := none }) with
            asm := { s.asm with
              count := s.asm.count + 1
              record := some
                { slot := slot, parts := parts, expected := cv, alg := alg, done := [],
                  acc := List.replicate alg.keyLen 0, held := none, phase := .collecting, number := s.asm.count + 1,
                  finished := none, finishedCv := none } } }))

/-- R51, R50: ASSEMBLE-CANCEL: a waiting request of the Assembler is withdrawn, the record closes, the slot becomes EMPTY,
and host and panel are told; with no assembly open it is refused; outside DUAL it is not taken. -/
def Obligations.AssembleCancel : Prop :=
  ∀ (s : State) (tag : Text), OperatorReady s →
    (s.auth.state ≠ .dual → exec (.assembleCancel tag) s = .next (refusedWith tag .notAuthorised (heard s))) ∧
    (s.auth.state = .dual → s.asm.record = none →
      exec (.assembleCancel tag) s = .next (refusedWith tag .wrongState (heardDual s))) ∧
    (∀ a, s.auth.state = .dual → s.asm.record = some a → exec (.assembleCancel tag) s =
      .next (replied tag [.field "SLOT" (.num a.slot), .field "STATE" (.word "EMPTY")]
        (raiseMessage [.word "ASSEMBLY", .field "SLOT" (.num a.slot), .field "RESULT" (.word "CANCELLED"),
            .field "CAUSE" (.word "REQUEST")]
          (raiseNotice [.word "!", .word "ASSEMBLY", .field "SLOT" (.num a.slot),
              .field "RESULT" (.word "CANCELLED"), .field "CAUSE" (.word "REQUEST")]
            { ((heardDual s).setSlot a.slot none).setAccount a.slot none with
              asm := { s.asm with record := none }
              cipher := { s.cipher with waiting := put s.cipher.waiting 8 none } }))))

/-- R44: the refusals of COMPONENT in order, each after the ones before it has passed, and the component that passes them
all: it is held, and its CHECK is posted. -/
def Obligations.Component : Prop :=
  ∀ (s : State) (n : Nat) (key : Text), PanelReady s →
    (s.asm.record = none → exec (.component n key) s = .next (panelErred .noAssembly (panelHeard s))) ∧
    (∀ a, s.asm.record = some a →
      (a.phase = .finishingCheck ∨ a.phase = .finishingTag →
        exec (.component n key) s = .next (panelErred .busy (panelHeard s))) ∧
      (a.phase ≠ .finishingCheck → a.phase ≠ .finishingTag →
        (s.auth.state ≠ .dual → exec (.component n key) s = .next (panelErred .notAuthorised (panelHeard s))) ∧
        (s.auth.state = .dual →
          (n ∉ s.auth.sessions → exec (.component n key) s = .next (panelErred .notLoggedOn (panelHeard s))) ∧
          (n ∈ s.auth.sessions →
            (a.held.isSome → exec (.component n key) s = .next (panelErred .pending (panelHeard s))) ∧
            (a.held = none →
              (n ∈ a.done.map Prod.fst →
                exec (.component n key) s = .next (panelErred .contributed (panelHeard s))) ∧
              (n ∉ a.done.map Prod.fst →
                (key.length ≠ a.alg.keyLen → exec (.component n key) s = .next (panelErred .length (panelHeard s))) ∧
                (key.length = a.alg.keyLen →
                  (a.alg.family = .block64 ∧ s.asm.policy = .strict ∧ key.all isOdd = false →
                    exec (.component n key) s = .next (panelErred .parity (panelHeard s))) ∧
                  (a.alg.family = .block128 ∨ s.asm.policy = .adjust ∨ key.all isOdd = true →
                    exec (.component n key) s =
                      .next (panelSaid [.word "COMPONENT", .field "ID" (.num n), .word "CHECKING"]
                        (post 8 (.asmCheck a.number a.alg key)
                          ((panelHeard s).setAsm (some { a with
                            held := some { id := n, bytes := key, cv := none }, phase := .checking }))).1)))))))))

/-- R46, R47: CONFIRM with YES while components are still wanted, and with NO; and the last CONFIRM, which finishes the key:
the exclusive-or of the components, each byte of a BLOCK-64 key made odd by its least-significant bit, its CHECK posted. -/
def Obligations.Confirm : Prop :=
  (∀ (s : State) (n : Nat) (a : Assembly) (h : HeldComponent) (v : CheckValue), PanelReady s →
     s.asm.record = some a → a.phase = .confirming → a.held = some h → h.cv = some v →
     (h.id ≠ n → exec (.confirmYes n) s = .next (panelErred .notHeld (panelHeard s)) ∧
       exec (.confirmNo n) s = .next (panelErred .notHeld (panelHeard s))) ∧
     (h.id = n → s.auth.state ≠ .dual → exec (.confirmYes n) s = .next (panelErred .notAuthorised (panelHeard s)) ∧
       exec (.confirmNo n) s = .next (panelErred .notAuthorised (panelHeard s))) ∧
     (h.id = n → s.auth.state = .dual →
       exec (.confirmNo n) s = .next (panelSaid [.word "CONFIRM", .field "ID" (.num n), .word "DISCARDED"]
         ((panelHeard s).setAsm (some { a with held := none, phase := .collecting }))) ∧
       (a.done.length + 1 < a.parts → exec (.confirmYes n) s =
         .next (panelSaid [.word "CONFIRM", .field "ID" (.num n),
             .field "PARTS" (.raw (dec (a.done.length + 1) ++ txt "/" ++ dec a.parts))]
           ((panelHeard s).setAsm (some { a with
             done := a.done ++ [(n, v)], acc := xorText a.acc h.bytes, held := none, phase := .collecting })))))) ∧
  (∀ (s : State) (n : Nat) (a : Assembly) (h : HeldComponent) (v : CheckValue) (key : Text), PanelReady s →
     s.asm.record = some a → a.phase = .confirming → a.held = some h → h.cv = some v → h.id = n → s.auth.state = .dual →
     a.done.length + 1 = a.parts →
     key = (if a.alg.family = .block64 then
         (xorText a.acc h.bytes).map fun b => if isOdd b then b else b ^^^ 1#8
       else xorText a.acc h.bytes) →
     exec (.confirmYes n) s =
       .next (panelSaid [.word "CONFIRM", .field "ID" (.num n),
           .field "PARTS" (.raw (dec a.parts ++ txt "/" ++ dec a.parts))]
         (post 8 (.asmCheck a.number a.alg key)
           ((panelHeard s).setAsm (some { a with
             done := a.done ++ [(n, v)], acc := xorText a.acc h.bytes, held := none, phase := .finishingCheck,
             finished := some key }))).1))

/-- R17, R45, R48: the outputs of the Assembler's operations, with nothing else waiting for the unit; `cv` is the check
value of the key that a CHECK read, `tag` the tag of the contents that the TAG read. A component's check value is shown; a
finished key that is not the one expected empties the slot; the TAG writes the key, its check value and the tag, raises the
entry number and makes the slot ACTIVE. -/
def Obligations.AssemblyOutputs : Prop :=
  ∀ (s : State) (e : Executing) (a : Assembly) (r : SlotRec) (intact : Bool) (alg : AlgPair) (key : Text)
    (cv : CheckValue), s.cipher.executing = some e → e.dropped = false →
    (∀ q < 10, look s.cipher.waiting none q = none) → s.asm.record = some a → s.slotAt a.slot = some r → a.slot < 64 →
    cv = Config.cipher.check alg key →
    (e.request = .asmCheck a.number alg key → e.input = .check alg key →
      (∀ h, a.phase = .checking → a.held = some h →
        exec (.cipherOperationComplete intact) s =
          .next (pump (raiseMessage [.word "CV", .field "ID" (.num h.id), .field "VALUE" (.hex 6 cv.toNat)]
            { s with
              asm := { s.asm with record := some { a with held := some { h with cv := some cv }, phase := .confirming } }
              cipher := { s.cipher with executing := none } }))) ∧
      (∀ v, a.phase = .finishingCheck → a.expected = some v → v ≠ cv →
        ∃ t, exec (.cipherOperationComplete intact) s = .next t ∧
          t = { (s.setSlot a.slot none).setAccount a.slot none with
            asm := { s.asm with record := none }, cipher := { s.cipher with executing := none }
            link := t.link, panel := t.panel }) ∧
      (a.phase = .finishingCheck → (a.expected = none ∨ a.expected = some cv) → s.cipher.selfTest = false →
        s.mode = .normal →
        exec (.cipherOperationComplete intact) s = .next (pump { s with
          asm := { s.asm with record := some { a with finishedCv := some cv, phase := .finishingTag } }
          cipher := { s.cipher with
            last := 8
            executing := some
              { requester := 8, request := .asmTag a.number r.cls r.alg (a.finished.getD []) r.kver r.label,
                input := .tag r.cls r.alg (a.finished.getD []) r.kver r.label, dropped := false } } }))) ∧
    (∀ cls kver label v tag, e.request = .asmTag a.number cls alg key kver label → e.input = .tag cls alg key kver label →
      tag = Config.cipher.tag cls alg key kver label → a.phase = .finishingTag → a.finished = some key →
      a.finishedCv = some v → ∃ t, exec (.cipherOperationComplete intact) s = .next t ∧
        t.slotAt a.slot = some { r with state := .active, material := some { key := key, cv := v, tag := tag } } ∧
        look t.keys.entryNos 0 a.slot = look s.keys.entryNos 0 a.slot + 1 ∧
        t = { s with
          keys := { s.keys with slots := t.keys.slots, entryNos := t.keys.entryNos }
          asm := { s.asm with record := none }, cipher := { s.cipher with executing := none }
          link := t.link, panel := t.panel } ∧
        ∀ n, n ≠ a.slot → t.slotAt n = s.slotAt n ∧ look t.keys.entryNos 0 n = look s.keys.entryNos 0 n)

/-- R34, R37: at most two sessions, of different custodians of the roster, and the authorisation state that follows from
them, DUAL exactly with two sessions of different groups: every step of the module keeps this. -/
def Obligations.SessionsLawKept : Prop :=
  (∀ s t : State, SessionsLawful s → step s = .next t → SessionsLawful t) ∧
  (∀ s : State, SessionsLawful s →
     (s.auth.state = .dual ↔ ∃ m n c d, s.auth.sessions = [m, n] ∧ s.custodianAt m = some c ∧
       s.custodianAt n = some d ∧ c.group ≠ d.group) ∧
     (s.auth.state = .none ↔ s.auth.sessions = []))

/-! ## Issue accounts (chapter 3) -/

/-- R56, R66: OPEN-ISSUE with FIRST and LAST given; STEP and THRESHOLD may be left out. Its refusals in order, and the
account it creates: armed when remaining is above the threshold, else ISSUE-LOW is sent and the warning stays disarmed. -/
def Obligations.OpenIssue : Prop :=
  ∀ (s : State) (tag : Text) (n f l : Nat) (p : BitVec 24) (st th : Option Nat), CustodianReady s → n < 64 →
    f < 10 ^ 8 → l < 10 ^ 8 → st.getD 1 < 10 ^ 8 → th.getD 100 < 10 ^ 8 →
    (16777215 < f ∨ 16777215 < l ∨ l < f ∨ st.getD 1 = 0 ∨ 16 < st.getD 1 →
      exec (.openIssue tag (.val n) (.val p) (.val f) (.val l) (optArg st) (optArg th)) s =
        .next (refusedWith tag .range (heardDual s))) ∧
    (f ≤ l → l ≤ 16777215 → 1 ≤ st.getD 1 → st.getD 1 ≤ 16 →
      ((∀ r, s.slotAt n = some r → r.state = .assembling ∨ r.cls ≠ .root ∨ (s.accountAt n).isSome) →
        exec (.openIssue tag (.val n) (.val p) (.val f) (.val l) (optArg st) (optArg th)) s =
          .next (refusedWith tag .wrongState (heardDual s))) ∧
      (∀ r, s.slotAt n = some r → r.state ≠ .assembling → r.cls = .root → s.accountAt n = none →
        ((∃ k a, s.accountAt k = some a ∧ a.pfx = p) →
          exec (.openIssue tag (.val n) (.val p) (.val f) (.val l) (optArg st) (optArg th)) s =
            .next (refusedWith tag .inUse (heardDual s))) ∧
        ((∀ k a, s.accountAt k = some a → a.pfx ≠ p) → ∀ w rem,
          w = min 65535 (th.getD 100) → rem = (l - f) / st.getD 1 + 1 →
          (w < rem → exec (.openIssue tag (.val n) (.val p) (.val f) (.val l) (optArg st) (optArg th)) s =
            .next (replied tag
              [.field "SLOT" (.num n), .field "PREFIX" (.hex 6 p.toNat), .field "REMAINING" (.num rem),
                .field "THRESHOLD" (.num w), .field "ARMED" (.word "YES")]
              ((heardDual s).setAccount n (some
                { pfx := p, first := f, last := l, step := st.getD 1, next := f, returned := [], threshold := w,
                  armed := true, consumed := 0, voided := 0 })))) ∧
          (rem ≤ w → exec (.openIssue tag (.val n) (.val p) (.val f) (.val l) (optArg st) (optArg th)) s =
            .next (replied tag
              [.field "SLOT" (.num n), .field "PREFIX" (.hex 6 p.toNat), .field "REMAINING" (.num rem),
                .field "THRESHOLD" (.num w), .field "ARMED" (.word "NO")]
              (raiseNotice [.word "!", .word "ISSUE-LOW", .field "SLOT" (.num n), .field "PREFIX" (.hex 6 p.toNat),
                  .field "REMAINING" (.num rem), .field "THRESHOLD" (.num w)]
                ((heardDual s).setAccount n (some
                  { pfx := p, first := f, last := l, step := st.getD 1, next := f, returned := [], threshold := w,
                    armed := false, consumed := 0, voided := 0 }))))))))

/-- R57, R58, R66: EXTEND-ISSUE raises the last number and SET-ISSUE-WARNING sets the threshold, clamped; each sets the
warning; their refusals in order. -/
def Obligations.IssueAccountChanges : Prop :=
  ∀ (s : State) (tag : Text) (n v : Nat), CustodianReady s → n < 64 → v < 10 ^ 8 →
    (16777215 < v → exec (.extendIssue tag (.val n) (.val v)) s = .next (refusedWith tag .range (heardDual s))) ∧
    (s.accountAt n = none →
      (v ≤ 16777215 →
        exec (.extendIssue tag (.val n) (.val v)) s = .next (refusedWith tag .wrongState (heardDual s))) ∧
      exec (.setIssueWarning tag (.val n) (.val v)) s = .next (refusedWith tag .wrongState (heardDual s))) ∧
    (∀ a, s.accountAt n = some a →
      (v ≤ a.last → v ≤ 16777215 →
        exec (.extendIssue tag (.val n) (.val v)) s = .next (refusedWith tag .range (heardDual s))) ∧
      (a.last < v → v ≤ 16777215 → ∀ rem,
        rem = a.returned.length + (if a.next ≤ v then (v - a.next) / a.step + 1 else 0) →
        exec (.extendIssue tag (.val n) (.val v)) s = .next (replied tag
          [.field "SLOT" (.num n), .field "LAST" (.num v), .field "NEXT" (.num a.next), .field "REMAINING" (.num rem),
            .field "ARMED" (yesNo (a.armed || decide (a.threshold < rem)))]
          ((heardDual s).setAccount n
            (some { a with last := v, armed := a.armed || decide (a.threshold < rem) })))) ∧
      (∀ w, w = min 65535 v →
        (w < a.remaining → exec (.setIssueWarning tag (.val n) (.val v)) s = .next (replied tag
          [.field "SLOT" (.num n), .field "THRESHOLD" (.num w), .field "REMAINING" (.num a.remaining),
            .field "ARMED" (.word "YES")]
          ((heardDual s).setAccount n (some { a with threshold := w, armed := true })))) ∧
        (a.remaining ≤ w → a.armed = true → exec (.setIssueWarning tag (.val n) (.val v)) s = .next (replied tag
          [.field "SLOT" (.num n), .field "THRESHOLD" (.num w), .field "REMAINING" (.num a.remaining),
            .field "ARMED" (.word "NO")]
          (raiseNotice [.word "!", .word "ISSUE-LOW", .field "SLOT" (.num n), .field "PREFIX" (.hex 6 a.pfx.toNat),
              .field "REMAINING" (.num a.remaining), .field "THRESHOLD" (.num w)]
            ((heardDual s).setAccount n (some { a with threshold := w, armed := false }))))) ∧
        (a.remaining ≤ w → a.armed = false → exec (.setIssueWarning tag (.val n) (.val v)) s = .next (replied tag
          [.field "SLOT" (.num n), .field "THRESHOLD" (.num w), .field "REMAINING" (.num a.remaining),
            .field "ARMED" (.word "NO")]
          ((heardDual s).setAccount n (some { a with threshold := w }))))))

/-- R59: READ-ISSUE. The counts and the condition are those of R54, written out. -/
def Obligations.ReadIssue : Prop :=
  ∀ (s : State) (tag : Text) (n : Nat), OperatorReady s → n < 64 →
    (s.accountAt n = none → exec (.readIssue tag (.val n)) s =
      .next (replied tag [.field "SLOT" (.num n), .field "ACCOUNT" (.word "NONE")] (heard s))) ∧
    (∀ a rem, s.accountAt n = some a →
      rem = a.returned.length + (if a.next ≤ a.last then (a.last - a.next) / a.step + 1 else 0) →
      exec (.readIssue tag (.val n)) s = .next (replied tag
        [.field "SLOT" (.num n), .field "PREFIX" (.hex 6 a.pfx.toNat), .field "FIRST" (.num a.first),
          .field "LAST" (.num a.last), .field "STEP" (.num a.step), .field "NEXT" (.num a.next),
          .field "RETURNED" (.raw (if a.returned = [] then txt "NONE"
            else ((a.returned.map dec).intersperse (txt ",")).flatten)),
          .field "REMAINING" (.num rem),
          .field "RESERVED" (.num ((a.next - a.first) / a.step - a.returned.length - a.consumed - a.voided)),
          .field "CONSUMED" (.num a.consumed), .field "VOIDED" (.num a.voided), .field "THRESHOLD" (.num a.threshold),
          .field "ARMED" (.word (if a.armed then "YES" else "NO")),
          .field "STATE" (.word (if rem = 0 then "EXHAUSTED" else "OPEN"))] (heard s)))

/-- R55, R61, R63, R64, R65: the moves of an issue number. A reservation from an account that is not EXHAUSTED takes the
smallest returned number, else the next one, and lowers remaining by 1; a number given back goes into a list with room,
in ascending order, and raises remaining by 1, else it is voided and remaining stays; consumption leaves remaining. -/
def Obligations.IssueNumberMoves : Prop :=
  ∀ (a : Account), AccountLawful a →
    (a.exhausted = false → ∃ m b, drawNumber a = (m, b) ∧ AccountLawful b ∧ b.remaining + 1 = a.remaining ∧
      (a.returned ≠ [] → m ∈ a.returned ∧ (∀ k ∈ a.returned, m ≤ k) ∧ b = { a with returned := a.returned.erase m }) ∧
      (a.returned = [] → m = a.next ∧ a.next ≤ a.last ∧ b = { a with next := a.next + a.step })) ∧
    (∀ (s : State) (n m : Nat), s.accountAt n = some a → n < 64 → m ∉ a.returned →
      (a.returned.length < 8 → ∃ b, (returnNumber n m s).1 = false ∧
        (returnNumber n m s).2 = s.setAccount n (some b) ∧ AccountLawful b ∧ b.remaining = a.remaining + 1 ∧
        (∀ k, k ∈ b.returned ↔ k = m ∨ k ∈ a.returned) ∧ b.next = a.next ∧ b.consumed = a.consumed ∧
        b.voided = a.voided ∧ (b.armed = true ↔ a.armed = true ∨ a.threshold < b.remaining)) ∧
      (a.returned.length = 8 →
        returnNumber n m s = (true, s.setAccount n (some { a with voided := a.voided + 1 }))) ∧
      consume n s = s.setAccount n (some { a with consumed := a.consumed + 1 }) ∧
      ({ a with consumed := a.consumed + 1, voided := a.voided + 1 } : Account).remaining = a.remaining)

/-! ## Plans (chapter 4) -/

/-- R80, R81, R72: EDIT-PLAN on plan `p`, whose draft, or the draft it would make, is `d`: the four changes with what they
store, their refusals, and what a clamp takes. -/
def Obligations.EditPlan : Prop :=
  (∀ (s : State) (tag : Text) (p i : Nat) (k : StepKind) (ops : StepArgs) (label : Text) (d : Draft),
    OperatorReady s → p < 16 → i < 10 ^ 7 →
    d = (match (s.planAt p).draft, (s.planAt p).installed with
      | some x, _ => x
      | none, some v => { label := v.label, steps := v.steps }
      | none, none => { label := [], steps := [] }) →
    (ops.fit k = false →
      exec (.editPlanSet tag (.val p) (.val i) (.val k) ops false) s = .next (refusedWith tag .badSyntax (heard s)) ∧
      exec (.editPlanInsert tag (.val p) (.val i) (.val k) ops false) s =
        .next (refusedWith tag .badSyntax (heard s))) ∧
    (ops.fit k = true →
      (i < d.steps.length → exec (.editPlanSet tag (.val p) (.val i) (.val k) ops false) s = .next (replied tag
        (List.append [.field "PLAN" (.num p), .field "STEPS" (.num d.steps.length), .field "STEP" (.num i),
          .field "KIND" (.word k.word)] (ops.clampedItems (ops.toStep k)))
        ((heard s).setPlan p { s.planAt p with draft := some { d with steps := d.steps.set i (ops.toStep k) } }))) ∧
      (d.steps.length ≤ i → exec (.editPlanSet tag (.val p) (.val i) (.val k) ops false) s =
        .next (refusedWith tag .range (heard s))) ∧
      (i ≤ d.steps.length → d.steps.length < 24 →
        exec (.editPlanInsert tag (.val p) (.val i) (.val k) ops false) s = .next (replied tag
          (List.append [.field "PLAN" (.num p), .field "STEPS" (.num (d.steps.length + 1)), .field "STEP" (.num i),
            .field "KIND" (.word k.word)] (ops.clampedItems (ops.toStep k)))
          ((heard s).setPlan p
            { s.planAt p with draft := some { d with steps := d.steps.insertIdx i (ops.toStep k) } }))) ∧
      (d.steps.length < i ∨ 24 ≤ d.steps.length →
        exec (.editPlanInsert tag (.val p) (.val i) (.val k) ops false) s =
          .next (refusedWith tag .range (heard s)))) ∧
    (i < d.steps.length → exec (.editPlanDelete tag (.val p) (.val i) false) s = .next (replied tag
      [.field "PLAN" (.num p), .field "STEPS" (.num (d.steps.length - 1))]
      ((heard s).setPlan p { s.planAt p with draft := some { d with steps := d.steps.eraseIdx i } }))) ∧
    (d.steps.length ≤ i → exec (.editPlanDelete tag (.val p) (.val i) false) s =
      .next (refusedWith tag .range (heard s))) ∧
    (label.length ≤ 16 → label.all isPrintable = true →
      exec (.editPlanLabel tag (.val p) (.val label) false) s = .next (replied tag
        [.field "PLAN" (.num p), .field "STEPS" (.num d.steps.length)]
        ((heard s).setPlan p { s.planAt p with draft := some { d with label := label } })))) ∧
  (∀ (k : StepKind) (ops : StepArgs),
    ops.toStep k =
      { kind := k, slot := ops.slot.toOption, tslot := ops.tslot.toOption, pos := ops.pos.toOption,
        text := ops.text.toOption,
        duration := ops.duration.toOption.map fun v => if v < 10 then 10 else if 60000 < v then 60000 else v,
        limit := ops.limit.toOption.map fun v =>
          if v = 0 then 0 else if v < 1000 then 1000 else if 3600000 < v then 3600000 else v,
        timeout := ops.timeout.toOption.map fun v => if v < 100 then 100 else if 60000 < v then 60000 else v,
        cont := ops.cont.toOption })

/-- R82: DISCARD-DRAFT drops the draft and leaves the versions; without a draft it is refused; the next EDIT-PLAN starts
from the installed version as it then stands (here LABEL, which takes its steps). -/
def Obligations.DiscardDraft : Prop :=
  ∀ (s : State) (tag : Text) (p : Nat), OperatorReady s → p < 16 →
    ((s.planAt p).draft = none → exec (.discardDraft tag (.val p)) s = .next (refusedWith tag .wrongState (heard s))) ∧
    ((s.planAt p).draft.isSome → exec (.discardDraft tag (.val p)) s = .next (replied tag
      [.field "PLAN" (.num p), .field "DRAFT" (.word "NONE")]
      ((heard s).setPlan p { s.planAt p with draft := none }))) ∧
    (∀ v label, (s.planAt p).draft = none → (s.planAt p).installed = some v → label.length ≤ 16 →
      label.all isPrintable = true → exec (.editPlanLabel tag (.val p) (.val label) false) s = .next (replied tag
        [.field "PLAN" (.num p), .field "STEPS" (.num v.steps.length)]
        ((heard s).setPlan p { s.planAt p with draft := some { label := label, steps := v.steps } })))

/-- R85, R86: INSTALL-PLAN and REMOVE-PLAN, with their refusals in order: the replaced version becomes the retiring one
when it has users and is discarded when it has none; the number is the counter plus 1, with 65,535 followed by 1. -/
def Obligations.InstallAndRemovePlan : Prop :=
  ∀ (s : State) (tag : Text) (n : Nat) (p : Plan), CustodianReady s → n < 16 → s.planAt n = p →
    (p.draft = none → exec (.installPlan tag (.val n)) s = .next (refusedWith tag .wrongState (heardDual s))) ∧
    (∀ d, p.draft = some d →
      (∀ i r, draftFault d.steps = some (i, r) → exec (.installPlan tag (.val n)) s =
        .next (pump (setReply [.raw tag, .word "ERR", .word "DRAFT-INVALID", .field "STEP" (.num i),
          .field "REASON" (.word r.word)] (heardDual s)))) ∧
      (draftFault d.steps = none → p.retiring.isSome →
        exec (.installPlan tag (.val n)) s = .next (refusedWith tag .busy (heardDual s))) ∧
      (∀ v, draftFault d.steps = none → p.retiring = none → v = (if p.counter < 65535 then p.counter + 1 else 1) →
        (p.installed = none ∨ p.users = [] → exec (.installPlan tag (.val n)) s = .next (replied tag
          [.field "PLAN" (.num n), .field "VERSION" (.num v), .field "RETIRING" (.word "NONE")]
          ((heardDual s).setPlan n
            { installed := some { number := v, label := d.label, steps := d.steps }, users := [], retiring := none,
              rusers := p.rusers, draft := none, counter := v }))) ∧
        (∀ old, p.installed = some old → p.users ≠ [] → exec (.installPlan tag (.val n)) s = .next (replied tag
          [.field "PLAN" (.num n), .field "VERSION" (.num v), .field "RETIRING" (.num old.number)]
          ((heardDual s).setPlan n
            { installed := some { number := v, label := d.label, steps := d.steps }, users := [],
              retiring := some old, rusers := p.users, draft := none, counter := v }))))) ∧
    (p.installed = none → exec (.removePlan tag (.val n)) s = .next (refusedWith tag .wrongState (heardDual s))) ∧
    (∀ old, p.installed = some old →
      (p.users ≠ [] → p.retiring.isSome →
        exec (.removePlan tag (.val n)) s = .next (refusedWith tag .busy (heardDual s))) ∧
      (p.users ≠ [] → p.retiring = none → exec (.removePlan tag (.val n)) s = .next (replied tag
        [.field "PLAN" (.num n), .field "INSTALLED" (.word "NONE"), .field "RETIRING" (.num old.number)]
        ((heardDual s).setPlan n
          { p with installed := none, users := [], retiring := some old, rusers := p.users }))) ∧
      (p.users = [] → exec (.removePlan tag (.val n)) s = .next (replied tag
        [.field "PLAN" (.num n), .field "INSTALLED" (.word "NONE"),
          .field "RETIRING" (match p.retiring with | some v => .num v.number | none => .word "NONE")]
        ((heardDual s).setPlan n { p with installed := none }))))

/-- R83: READ-PLAN answers from the plan as it stands, in its forms, and changes nothing. That the installed version is
answered without STEP too is the model's choice (entry 33). -/
def Obligations.PlanReads : Prop :=
  ∀ (s : State) (tag : Text) (n i : Nat) (w : Which) (p : Plan) (v : Option Draft), OperatorReady s → n < 16 →
    i < 10 ^ 8 → s.planAt n = p →
    v = (match w with
      | .installed => p.installed.map fun x => { label := x.label, steps := x.steps }
      | .retiring => p.retiring.map fun x => { label := x.label, steps := x.steps }
      | .draft => p.draft) →
    exec (.readPlan tag (.val n)) s = .next (replied tag
      (List.flatten
        [[.field "PLAN" (.num n), .field "COUNTER" (.num p.counter),
          .field "INSTALLED" (match p.installed with | some x => .num x.number | none => .word "NONE")],
        (match p.installed with
          | some x => [.field "LABEL" (.label x.label), .field "STEPS" (.num x.steps.length), .field "USERS" (ids p.users)]
          | none => []),
        [.field "RETIRING" (match p.retiring with | some x => .num x.number | none => .word "NONE")],
        (match p.retiring with | some _ => [.field "RUSERS" (ids p.rusers)] | none => []),
        [.field "DRAFT" (match p.draft with | some d => .num d.steps.length | none => .word "NONE")]]) (heard s)) ∧
    (v = none → exec (.readPlanStep tag (.val n) (.val w) (.val i)) s =
      .next (refusedWith tag .wrongState (heard s))) ∧
    (∀ d, v = some d →
      exec (.readPlanStep tag (.val n) (.val w) .absent) s = .next (replied tag
        [.field "PLAN" (.num n), .field "WHICH" (.word w.word), .field "LABEL" (.label d.label),
          .field "STEPS" (.num d.steps.length)] (heard s)) ∧
      (d.steps.length ≤ i → exec (.readPlanStep tag (.val n) (.val w) (.val i)) s =
        .next (refusedWith tag .range (heard s))) ∧
      (∀ st, d.steps[i]? = some st → exec (.readPlanStep tag (.val n) (.val w) (.val i)) s = .next (replied tag
        (List.append [.field "PLAN" (.num n), .field "WHICH" (.word w.word), .field "STEP" (.num i),
          .field "KIND" (.word st.kind.word)] st.items) (heard s))))

/-- R84: what the checks make true of every draft that passes install validation. -/
def Obligations.ValidDraftLaw : Prop :=
  ∀ l : List Step, draftFault l = none →
    l ≠ [] ∧ (l.filter fun x => x.kind.isLoad).length ≤ 10 ∧
    (∀ (i : Nat) (x : Step), l[i]? = some x →
      (x.kind = .pause → x.duration.isSome) ∧ (x.kind = .verify → ∃ p, x.pos = some p ∧ p < 10) ∧
      (x.kind.isLoad = true → ∃ a b p, x.slot = some a ∧ a < 64 ∧ x.tslot = some b ∧ b < 64 ∧ x.pos = some p ∧ p < 10) ∧
      (x.kind = .verify → ∃ (j : Nat) (y : Step), j < i ∧ l[j]? = some y ∧ y.kind.isLoad = true ∧ y.pos = x.pos) ∧
      (x.kind = .route → (∃ (j : Nat) (y : Step), j < i ∧ l[j]? = some y ∧ y.kind = .identify) ∧
        ∀ (j : Nat) (y : Step), l[j]? = some y → y.kind.isLoad = false ∧ y.kind ≠ .verify ∧ (y.kind = .route → j = i)) ∧
      (∀ (j : Nat) (y : Step), j < i → l[j]? = some y →
        (x.kind.isLoad = true → y.kind.isLoad = true → y.pos ≠ x.pos) ∧
        (x.kind = .loadDerived → y.kind = .loadDerived → y.slot ≠ x.slot)))

/-! ## Routing windows (chapter 5) -/

/-- R93: a model pattern matches at each of the four places, a ? matching any character; and R94's three tests, with what
a mask of zeros, a mask of ones and a span of one pass. -/
def Obligations.WindowMatching : Prop :=
  (∀ p m : Text, p.length = 4 → m.length = 4 →
    (modelMatches p m = true ↔ ∀ i < 4, p[i]? = some 0x3F#8 ∨ p[i]? = m[i]?)) ∧
  (∀ m : Text, m.length = 4 → modelMatches (txt "????") m = true) ∧
  (∀ m : Text, m.length = 4 → (modelMatches (txt "VX20") m = true ↔ m = txt "VX20")) ∧
  (∀ m ∈ [txt "VX20", txt "VX21", txt "VX2Z"], modelMatches (txt "VX2?") m = true) ∧
  modelMatches (txt "VX2?") (txt "VX30") = false ∧
  (∀ (serial b m low high : BitVec 32),
    SerialTest.any.passes serial = true ∧
    ((SerialTest.mask b m).passes serial = true ↔ serial &&& m = b &&& m) ∧
    ((SerialTest.span low high).passes serial = true ↔ low.toNat ≤ serial.toNat ∧ serial.toNat ≤ high.toNat) ∧
    (SerialTest.mask b 0).passes serial = true ∧
    ((SerialTest.mask b 0xFFFFFFFF).passes serial = true ↔ serial = b) ∧
    ((SerialTest.span low low).passes serial = true ↔ serial = low) ∧
    ((SerialTest.mask 0x7F00AB00 0xFF000000).passes serial = true ↔
      0x7F000000 ≤ serial.toNat ∧ serial.toNat ≤ 0x7FFFFFFF))

/-- R95, R96, R121: the first window that matches decides, else the default route; a REJECT ends the run REJECTED-ROUTE
with the source, a plan that cannot be bound ends it ROUTE-FAILED. -/
def Obligations.RouteDecision : Prop :=
  (∀ (s : State) (i : Identity),
    (∀ n w, n < 16 → s.windowAt n = some w → w.hits i = true →
      (∀ k x, k < n → s.windowAt k = some x → x.hits i = false) →
      (∀ p, w.kind = .route → w.plan = some p → decideRoute (some i) s = (some p, .window n)) ∧
      (w.kind = .exclude → decideRoute (some i) s = (none, .window n))) ∧
    ((∀ k x, s.windowAt k = some x → x.hits i = false) →
      (s.defaultRoute = .reject → decideRoute (some i) s = (none, .default)) ∧
      (∀ p, s.defaultRoute = .plan p → decideRoute (some i) s = (some p, .default)))) ∧
  (∀ (w : Window) (i : Identity), w.hits i = true ↔
    w.enabled = true ∧ modelMatches w.model i.model = true ∧ w.test.passes i.serial = true ∧
      (∀ m, w.minfw = some m → m ≤ i.firmware.toNat)) ∧
  (∀ (s : State) (n : Nat) (c : RunContext) (src : RouteSource),
    (decideRoute c.identity s = (none, src) → routeStep n c s = (s, .fin (.rejectedRoute src) none)) ∧
    (∀ p, decideRoute c.identity s = (some p, src) →
      ((s.planAt p).installed = none → routeStep n c s = (s, .fin (.routeFailed false) none)) ∧
      (∀ v, (s.planAt p).installed = some v → (∃ x ∈ v.steps, x.kind = .route) →
        routeStep n c s = (s, .fin (.routeFailed true) none))))

/-- R92, R98, R99, R100, R103: the requests that change the table, at either level, and their refusals. -/
def Obligations.WindowChanges : Prop :=
  (∀ (s : State) (tag : Text) (n : Nat) (lv : Level), LevelReady lv s → n < 16 →
    (∀ (a : WindowArgs) (kind : WindowKind) (model : Text) (t : SerialTest) (minfw plan : Option Nat)
        (enabled : Option Bool) (owner : Option Owner),
      a.window = .val n → a.kind = .val kind → a.model = .val model → a.serialTest? = some t → a.minfw = optArg minfw →
      a.plan = optArg plan → a.enabled = optArg enabled → a.owner = optArg owner → isPattern model = true →
      (kind = .route ↔ plan.isSome) → (∀ p, plan = some p → p < 16) → (∀ m, minfw = some m → m ≤ 65535) →
      (∀ lo hi, t = .span lo hi → lo.toNat ≤ hi.toNat) →
      (lv = .operator → (s.windowAt n).map Window.owner = some .custodian →
        exec (.setWindow tag a lv) s = .next (refusedWith tag .hidden (heardAt lv s))) ∧
      (lv = .operator → (s.windowAt n).map Window.owner ≠ some .custodian → owner = some .custodian →
        exec (.setWindow tag a lv) s = .next (refusedWith tag .notAuthorised (heardAt lv s))) ∧
      (lv = .custodian ∨ (s.windowAt n).map Window.owner ≠ some .custodian ∧ owner ≠ some .custodian → ∀ w : Window,
        w = { enabled := enabled.getD true, kind := kind, model := model, test := t, minfw := minfw, plan := plan,
              owner := owner.getD (((s.windowAt n).map Window.owner).getD
                (match lv with | .operator => .operator | .custodian => .custodian)) } →
        exec (.setWindow tag a lv) s =
          .next (replied tag (windowItems n lv (some w)) ((heardAt lv s).setWindow n (some w))))) ∧
    (∀ e : Bool,
      (lv = .operator → (s.windowAt n).map Window.owner = some .custodian →
        exec (.setWindowEnabled tag (.val n) (.val e) false lv) s = .next (refusedWith tag .hidden (heardAt lv s)) ∧
        exec (.clearWindow tag (.val n) lv) s = .next (refusedWith tag .hidden (heardAt lv s))) ∧
      (s.windowAt n = none →
        exec (.setWindowEnabled tag (.val n) (.val e) false lv) s =
          .next (refusedWith tag .wrongState (heardAt lv s)) ∧
        exec (.clearWindow tag (.val n) lv) s = .next (refusedWith tag .wrongState (heardAt lv s))) ∧
      (∀ w, s.windowAt n = some w → (lv = .custodian ∨ w.owner = .operator) →
        exec (.setWindowEnabled tag (.val n) (.val e) false lv) s = .next (replied tag
          (windowItems n lv (some { w with enabled := e }))
          ((heardAt lv s).setWindow n (some { w with enabled := e }))) ∧
        exec (.clearWindow tag (.val n) lv) s = .next (replied tag
          [.field "WINDOW" (.num n), .field "KIND" (.word "NONE")] ((heardAt lv s).setWindow n none))))) ∧
  (∀ (s : State) (tag : Text) (p : Nat), CustodianReady s → p < 10 ^ 8 →
    exec (.setDefaultRoute tag (.val .reject)) s = .next (replied tag [.field "DEFAULT" (.word "REJECT")]
      { heardDual s with defaultRoute := .reject }) ∧
    (p < 16 → exec (.setDefaultRoute tag (.val (.plan p))) s = .next (replied tag [.field "DEFAULT" (.num p)]
      { heardDual s with defaultRoute := .plan p })) ∧
    (16 ≤ p → exec (.setDefaultRoute tag (.val (.plan p))) s = .next (refusedWith tag .range (heardDual s))))

/-- R92, R101, R102: READ-WINDOW at either level: a window that is CUSTODIAN-owned shows an OPERATOR-level request no
field, and H in the summary; the requests change nothing but, at CUSTODIAN level, the dual window timer. -/
def Obligations.WindowReads : Prop :=
  ∀ (s : State) (tag : Text) (n : Nat) (lv : Level), LevelReady lv s → n < 16 →
    (s.windowAt n = none → exec (.readWindow tag (.val n) lv) s = .next (replied tag
      [.field "WINDOW" (.num n), .field "KIND" (.word "NONE")] (heardAt lv s))) ∧
    (∀ w, s.windowAt n = some w →
      (lv = .operator → w.owner = .custodian → exec (.readWindow tag (.val n) lv) s = .next (replied tag
        [.field "WINDOW" (.num n), .field "KIND" (.word "HIDDEN")] (heardAt lv s))) ∧
      (lv = .custodian ∨ w.owner = .operator → exec (.readWindow tag (.val n) lv) s = .next (replied tag
        (List.flatten
          [[.field "WINDOW" (.num n), .field "OWNER" (.word w.owner.word), .field "KIND" (.word w.kind.word),
            .field "ENABLED" (yesNo w.enabled), .field "MODEL" (.raw w.model)],
          (match w.test with
            | .any => [.field "TEST" (.word "ANY")]
            | .mask b m => [.field "TEST" (.word "MASK"), .field "BASE" (.hex 8 b.toNat), .field "MASK" (.hex 8 m.toNat)]
            | .span l h => [.field "TEST" (.word "SPAN"), .field "LOW" (.hex 8 l.toNat), .field "HIGH" (.hex 8 h.toNat)]),
          (match w.minfw with | some m => [.field "MINFW" (.num m)] | none => []),
          (match w.plan with | some p => [.field "PLAN" (.num p)] | none => [])]) (heardAt lv s)))) ∧
    exec (.readWindowSummary tag lv) s = .next (replied tag
      [.field "WINDOWS" (.raw (s.windows.toList.map fun x => match x with
          | none => 0x2D#8
          | some w => if lv = .operator ∧ w.owner = .custodian then 0x48#8
            else match w.kind, w.enabled with
              | .route, true => 0x52#8
              | .route, false => 0x72#8
              | .exclude, true => 0x58#8
              | .exclude, false => 0x78#8)),
        .field "DEFAULT" (match s.defaultRoute with | .reject => .word "REJECT" | .plan p => .num p)] (heardAt lv s))

/-! ## Lanes and runs (chapter 6) -/

/-- R105, R109, R110: QUEUE-RUN, its refusals in order; in HELD and RUNNING the request waits at the tail; on an IDLE lane
it is the head, and run start follows its reply at once; with the Record Queue full the lane is HELD, told once. -/
def Obligations.QueueRun : Prop :=
  ∀ (s : State) (tag : Text) (n p : Nat) (rep rt : Option Nat), OperatorReady s → rep.getD 1 < 10 ^ 8 →
    rt.getD 0 < 10 ^ 8 → n < 10 ^ 8 → p < 10 ^ 8 →
    (8 ≤ n ∨ 16 ≤ p ∨ 65535 < rep.getD 1 ∨ 65535 < rt.getD 0 →
      exec (.queueRun tag (.val n) (.val p) (optArg rep) (optArg rt)) s = .next (refusedWith tag .range (heard s))) ∧
    (n < 8 → p < 16 → rep.getD 1 ≤ 65535 → rt.getD 0 ≤ 65535 → ∀ l q,
      l = s.laneAt n → q = { plan := p, rep := rep.getD 1, tag := rt.getD 0, iteration := 1 } →
      (l.state = .offline → exec (.queueRun tag (.val n) (.val p) (optArg rep) (optArg rt)) s =
        .next (refusedWith tag .laneOffline (heard s))) ∧
      (l.state ≠ .offline → (s.planAt p).installed = none →
        exec (.queueRun tag (.val n) (.val p) (optArg rep) (optArg rt)) s = .next (refusedWith tag .noPlan (heard s))) ∧
      (l.state ≠ .offline → (s.planAt p).installed.isSome →
        (4 ≤ l.queue.length → exec (.queueRun tag (.val n) (.val p) (optArg rep) (optArg rt)) s =
          .next (refusedWith tag .queueFull (heard s))) ∧
        (l.queue.length < 4 → l.state ≠ .idle →
          exec (.queueRun tag (.val n) (.val p) (optArg rep) (optArg rt)) s = .next (replied tag
            [.field "LANE" (.num n), .field "QUEUED" (.num (l.queue.length + 1))]
            ((heard s).setLane n { l with queue := l.queue ++ [q] }))) ∧
        (l.queue = [] → l.state = .idle → s.records.entries.length < 48 →
          exec (.queueRun tag (.val n) (.val p) (optArg rep) (optArg rt)) s = .next (replied tag
            [.field "LANE" (.num n), .field "QUEUED" (.num 1)]
            (startAt n ((heard s).setLane n { l with queue := [q] })))) ∧
        (l.queue = [] → l.state = .idle → s.records.entries.length = 48 → s.records.fullReported = true →
          exec (.queueRun tag (.val n) (.val p) (optArg rep) (optArg rt)) s = .next (replied tag
            [.field "LANE" (.num n), .field "QUEUED" (.num 1)]
            (raiseNotice [.word "!", .word "LANE-HELD", .field "LANE" (.num n), .field "TAG" (.num q.tag),
                .field "PLAN" (.num p)]
              { (heard s).setLane n { l with queue := [q], state := .held } with
                records := { s.records with
                  waiting := insertAsc n s.records.waiting
                  told := s.records.told.filter (· ≠ n) } })))))

/-- R110, R111, R112, R115: a run start that finds a place: the lane becomes RUNNING with the next ordinal, the entry
stands OPEN at the queue's tail, the installed version has the lane as a user; with AWAIT at step 0, no LOAD step and an
empty cradle the run waits, its timer loaded with LIMIT. -/
def Obligations.RunStart : Prop :=
  ∀ (s : State) (n : Nat) (q : RunRequest) (rest : List RunRequest) (v : Version) (st : Step) (more : List Step)
    (lim : Nat), n < 8 → (s.laneAt n).queue = q :: rest → s.records.entries.length < 48 →
    (s.planAt q.plan).installed = some v → v.steps = st :: more → st.kind = .await → lim = st.limit.getD 0 →
    (∀ x ∈ more, x.kind.isLoad = false) → (s.lineAt n).presence = false →
    (∀ r ∈ s.records.entries, r.lane = n → r.closed = true) → q.plan < 16 →
    startAt n s =
      { s with
        lanes := put s.lanes n { s.laneAt n with
          state := .running
          ordinal := (s.laneAt n).ordinal + 1
          timer := if lim = 0 then none else some lim
          ctx := some
            { ordinal := (s.laneAt n).ordinal + 1, plan := q.plan, version := some v.number, steps := v.steps,
              routed := none, following := .start, step := 0, stage := .awaiting, identity := none, deliveries := [],
              frameSent := false, waits := 0, abortPending := false, notes := [], heldKey := none, header := none } }
        plans := put s.plans q.plan { s.planAt q.plan with users := insertAsc n (s.planAt q.plan).users }
        records := { s.records with
          entries := s.records.entries ++
            [{ closed := false, lane := n, ordinal := (s.laneAt n).ordinal + 1, tag := q.tag,
               iteration := q.iteration, plan := q.plan, version := some v.number, routed := none, outcome := none,
               failStep := none, identity := none, deliveries := [], voided := [], notes := [] }]
          waiting := s.records.waiting.filter (· ≠ n)
          told := s.records.told.filter (· ≠ n) } }

/-- R127, R128: ABORT-LANE by the lane's state: nothing more on an OFFLINE or IDLE lane; the head of a HELD lane goes;
a run at a safe point ends ABORTED; a delivery, and a run that is already aborting, goes on with the flag set. FLUSH acts
first. -/
def Obligations.AbortLane : Prop :=
  ∀ (s : State) (tag : Text) (n : Nat) (flush : Option Unit) (l : Lane) (q : List RunRequest) (k : Nat),
    OperatorReady s → n < 8 → l = s.laneAt n → q = (if flush.isSome then l.queue.take 1 else l.queue) →
    k = l.queue.length - q.length →
    ((l.state = .offline ∨ l.state = .idle) → exec (.abortLane tag (.val n) (optArg flush)) s = .next (replied tag
      [.field "LANE" (.num n), .field "RUN" (.word "NONE"), .field "FLUSHED" (.num k)]
      ((heard s).setLane n { l with queue := q }))) ∧
    (l.state = .held → q.length ≤ 1 → exec (.abortLane tag (.val n) (optArg flush)) s = .next (replied tag
      [.field "LANE" (.num n), .field "RUN" (.word "HELD-REMOVED"), .field "FLUSHED" (.num k)]
      { (heard s).setLane n { l with queue := [], state := .idle } with
        records := { s.records with
          waiting := s.records.waiting.filter (· ≠ n)
          told := s.records.told.filter (· ≠ n) } })) ∧
    (∀ c, l.state = .running → l.ctx = some c →
      (c.abortPending = true ∨ (c.stage = .frame ∧ c.delivering = true) ∨
          (c.stage = .compute ∧ look s.cipher.waiting none n = none) →
        exec (.abortLane tag (.val n) (optArg flush)) s = .next (replied tag
          [.field "LANE" (.num n), .field "RUN" (.word "ABORTING"), .field "FLUSHED" (.num k)]
          ((heard s).setLane n { l with queue := q, ctx := some { c with abortPending := true } }))) ∧
      (c.abortPending = false → (c.stage = .awaiting ∨ c.stage = .pausing ∨ (c.stage = .frame ∧ c.delivering = false) ∨
          (c.stage = .compute ∧ (look s.cipher.waiting none n).isSome)) →
        exec (.abortLane tag (.val n) (optArg flush)) s = .next (replied tag
          [.field "LANE" (.num n), .field "RUN" (.word "ABORTED"), .field "FLUSHED" (.num k)]
          (endRun n (.aborted none) ((heard s).setLane n { l with queue := q })))))

/-- R129, R130, R131: what run end leaves, whatever the outcome: no context, no timer, no expected reply, no waiting
frame, no waiting request, no binding; the OPEN entry CLOSED with the outcome and its step; the served mark; the queue;
and nothing of the other lanes, the settings or the sessions changed. -/
def Obligations.RunEndLeaves : Prop :=
  ∀ (s : State) (n : Nat) (c : RunContext) (o : Outcome) (k : Option Nat), n < 8 → s.ctxAt n = some c →
    ∃ t, runEnd n (o, k) s = t ∧
      t.laneAt n = { s.laneAt n with
        ctx := none, timer := none, state := .idle, queue := queueAfter o c.abortPending (s.laneAt n).queue } ∧
      t.lineAt n = { s.lineAt n with
        expected := none, next := none
        served := (s.lineAt n).served || (c.frameSent && (s.lineAt n).presence) } ∧
      (∀ m, m ≠ n → t.laneAt m = s.laneAt m ∧ t.lineAt m = s.lineAt m) ∧
      (∀ m r, t.slotAt m = some r → ∀ b ∈ r.bound, b.lane ≠ n) ∧
      t.cipher = { s.cipher with waiting := put s.cipher.waiting n none } ∧
      t.records.entries.length = s.records.entries.length ∧
      (∀ (i : Nat) (r : Record), s.records.entries[i]? = some r →
        (r.closed = true ∨ r.lane ≠ n → t.records.entries[i]? = some r) ∧
        (r.closed = false → r.lane = n → ∃ voided, t.records.entries[i]? = some { r with
          closed := true, outcome := some o, voided := voided, version := c.version, routed := c.routed
          identity := c.identity, deliveries := c.deliveries, notes := c.notes
          failStep := if o.hasFailStep = true then some (k.getD c.step) else none })) ∧
      t.windows = s.windows ∧ t.defaultRoute = s.defaultRoute ∧ t.auth = s.auth ∧ t.asm = s.asm ∧ t.panel = s.panel ∧
      t.mode = s.mode ∧ t.latch = s.latch

/-- R107, R108, R135, R143, R148: SET-LANE, READ-LANE, CLEAR-COUNTERS. That a line which still sends as its lane comes
online or goes OFFLINE goes on sending, with its receiver closed, is the model's reading (entry 16). -/
def Obligations.LaneSettings : Prop :=
  ∀ (s : State) (tag : Text) (n : Nat) (l : Lane) (x : BenchLine), OperatorReady s → n < 8 → l = s.laneAt n →
    x = s.lineAt n →
    (∀ (y : Option Bool) (r : Option Nat) (p : Option Parity), r.getD 0 < 10 ^ 8 →
      (∀ v, r = some v → v ∉ [9600, 19200, 38400, 57600, 115200] →
        exec (.setLane tag (.val n) (optArg y) (optArg r) (optArg p)) s = .next (refusedWith tag .range (heard s))) ∧
      (∀ rt : Rate, (r = none ∧ rt = x.rate ∨ r = some rt.bps) →
        (l.state = .held ∨ l.state = .running →
          exec (.setLane tag (.val n) (optArg y) (optArg r) (optArg p)) s = .next (refusedWith tag .busy (heard s))) ∧
        (l.state = .offline ∨ l.state = .idle → ∀ (l' : Lane) (x' : BenchLine),
          l' = { l with
            online := y.getD l.online
            state := match y with | none => l.state | some true => .idle | some false => .offline } →
          x' = { x with
            rate := rt, parity := p.getD x.parity
            rx := match y with
              | some false => .closed
              | some true => if l.state = .offline ∧ x.tx = .idle then .hunting else x.rx
              | none => x.rx
            gapTimer := match y with
              | some false => none
              | some true => if l.state = .offline ∧ x.tx = .idle then none else x.gapTimer
              | none => x.gapTimer } →
          exec (.setLane tag (.val n) (optArg y) (optArg r) (optArg p)) s = .next (replied tag
            [.field "LANE" (.num n), .field "ONLINE" (yesNo l'.online), .field "RATE" (.num rt.bps),
              .field "PARITY" (.word x'.parity.word)] (((heard s).setLane n l').setLine n x'))))) ∧
    exec (.readLane tag (.val n)) s = .next (replied tag
      (List.flatten
        [[.field "LANE" (.num n), .field "STATE" (.word l.state.word), .field "ONLINE" (yesNo l.online),
          .field "ORDINAL" (.num l.ordinal.toNat),
          .field "REQUESTS" (.raw (commaList (l.queue.map fun q =>
            dec q.plan ++ txt ":" ++ dec q.rep ++ txt ":" ++ dec q.tag ++ txt ":" ++ dec q.iteration)))],
        (match l.ctx with
          | none => []
          | some c =>
            [.field "PLAN" (.num c.plan),
              .field "VERSION" (match c.version with | some v => .num v | none => .word "NONE"),
              .field "ROUTED" (match c.routed with
                | some (p, v) => .raw (dec p ++ txt ":" ++ dec v) | none => .word "NONE"),
              .field "STEP" (.num c.step), .field "ABORTING" (yesNo c.abortPending)]),
        [.field "RATE" (.num x.rate.bps), .field "PARITY" (.word x.parity.word),
          .field "PRESENCE" (.word (if x.presence then "PRESENT" else "ABSENT")), .field "SERVED" (yesNo x.served),
          .field "AWAITING" (match x.expected with | some k => .word k.word | none => .word "NONE"),
          .field "CHECKERR" (.num x.checkErr), .field "UNSOLICITED" (.num x.unsolicited)]]) (heard s)) ∧
    exec (.clearCounters tag (.val n)) s = .next (replied tag
      [.field "LANE" (.num n), .field "CHECKERR" (.num x.checkErr), .field "UNSOLICITED" (.num x.unsolicited)]
      ((heard s).setLine n { x with checkErr := 0, unsolicited := 0 }))

/-- R115, R117, R120, R124, R125, R110: the expiry of the step timer by where the run stands, and a HELD lane's retry: it
starts its run where a place is free, and where none is it stays HELD and sends no second LANE-HELD. The expiry of a stopped
timer changes nothing (entry 4), and so does a retry of a lane that was not told (entry 17): both are the model's. -/
def Obligations.LaneTimers : Prop :=
  ∀ (s : State) (f : Fin 8) (n : Nat) (c : RunContext), n = f.val →
    ((s.laneAt n).timer = none → exec (.stepTimerExpiry f) s = .next (pump s)) ∧
    ((s.laneAt n).timer.isSome → s.ctxAt n = some c → ∀ u, u = ((s.setTimer n none).modLine n fun l =>
        { l with expected := none }) →
      (c.stage = .awaiting → exec (.stepTimerExpiry f) s = .next (pump (endRun n .timeout u))) ∧
      (c.stage = .pausing → c.abortPending = false → c.steps.length ≤ c.step + 1 →
        exec (.stepTimerExpiry f) s = .next (pump (endRun n .complete u))) ∧
      (c.stage = .frame → c.delivering = false → ∀ st, c.current = some st →
        (st.continues = false → exec (.stepTimerExpiry f) s = .next (pump (endRun n .timeout u))) ∧
        (st.continues = true → c.abortPending = false → c.steps.length ≤ c.step + 1 →
          exec (.stepTimerExpiry f) s = .next (pump (endRun n .complete
            (syncOpen n (u.modCtx n fun c => { c with notes := c.notes ++ [{ step := c.step, kind := .timeout }] })))))) ∧
      (c.stage = .frame → c.delivering = true → exec (.stepTimerExpiry f) s = .next (pump (endRun n
        (if c.abortPending then .aborted (some .timeout) else .timeout)
        (u.modDelivery n fun d => { d with phase := .unanswered, reason := none }))))) ∧
    ((s.laneAt n).state = .held → n ∈ s.records.told →
      (∀ q rest, (s.laneAt n).queue = q :: rest → s.records.entries.length = 48 → s.records.fullReported = true →
        exec (.reservationRetry f) s = .next (pump { s with records := { s.records with
          waiting := insertAsc n s.records.waiting, told := s.records.told.filter (· ≠ n) } })) ∧
      (exec (.reservationRetry f) s = .next (pump (startAt n
        { s with records := { s.records with told := s.records.told.filter (· ≠ n) } })))) ∧
    ((s.laneAt n).state ≠ .held ∨ n ∉ s.records.told → exec (.reservationRetry f) s = .next (pump s))

/-- R17, R122, R123, R128, R140, R159, R160: the outputs of a LOAD step's operations, with no other request waiting.
DERIVE's, of a LOAD-DERIVED step, is the terminal key of the root key and the TKI it read; it becomes the held key, and CHECK
is posted. CHECK's becomes the check value, and WRAP is posted with the header filled. WRAP's is sealed into the KEY frame,
and the held key and the header are erased; a line that sends takes the frame as its next, and an idle line begins it at the
hand-over, which is the delivery start (entry 15). With the abort-pending flag set the run ends ABORTED instead; of a run
that is no longer current the output is discarded. -/
def Obligations.LoadOutputs : Prop :=
  ∀ (s : State) (e : Executing) (r : LaneRequest) (n : Nat) (c : RunContext) (st : Step) (d : Delivery) (k w : SlotRec)
    (intact : Bool) (alg : AlgPair) (key : Text), n < 8 → s.cipher.executing = some e → e.request = .lane r →
    e.requester = n → e.dropped = false → (∀ q < 10, look s.cipher.waiting none q = none) → s.cipher.selfTest = false →
    s.mode = .normal → s.ctxAt n = some c → c.current = some st → c.delivery = some d → st.kind.isLoad = true →
    r.slot = d.slot → r.tslot = d.tslot → s.slotAt d.slot = some k → k.state = .active → s.slotAt d.tslot = some w →
    w.state = .active →
    (c.ordinal ≠ r.ordinal → exec (.cipherOperationComplete intact) s =
      .next (pump { s with cipher := { s.cipher with executing := none } })) ∧
    (c.ordinal = r.ordinal → c.abortPending = true → exec (.cipherOperationComplete intact) s =
      .next (pump (unitFree (endRun n (.aborted none) s)))) ∧
    (c.ordinal = r.ordinal → c.abortPending = false →
      (∀ tki out, r.op = .derive → st.kind = .loadDerived → e.input = .derive alg key tki →
        out = Config.cipher.derive alg key tki → exec (.cipherOperationComplete intact) s =
        .next (pump { s.modCtx n (fun c => { c with heldKey := some out }) with
          cipher := { s.cipher with
            last := n
            executing := some
              { requester := n
                request := .lane { ordinal := c.ordinal, op := .check, step := c.step, slot := d.slot, tslot := d.tslot,
                                   tki := none, key := some out, header := none }
                input := .check k.alg out, dropped := false } } })) ∧
      (∀ hdr held wrapped, r.op = .check → e.input = .check alg key → hdr = envelopeHeader k d.pos d.tki →
        held = (if st.kind = .loadDerived then c.heldKey else none) → wrapped = held.getD (s.slotKey d.slot) →
        ∃ t, exec (.cipherOperationComplete intact) s = .next t ∧
        t.ctxAt n = some { c with
          deliveries := c.deliveries.modify c.deliveryIdx fun d => { d with cv := some (Config.cipher.check alg key) }
          header := some hdr } ∧
        t.cipher = { s.cipher with
          last := n
          executing := some
            { requester := n
              request := .lane { ordinal := c.ordinal, op := .wrap, step := c.step, slot := d.slot, tslot := d.tslot,
                                 tki := none, key := held, header := some hdr }
              input := .wrap w.alg (s.slotKey d.tslot) hdr wrapped, dropped := false } } ∧
        t.keys = s.keys ∧ t.accounts = s.accounts ∧ t.lines = s.lines) ∧
      (∀ hdr transport h data f u, r.op = .wrap → c.header = some hdr → e.input = .wrap alg transport h key →
        data = Config.cipher.wrap alg transport h key →
        f = { ordinal := c.ordinal, kind := .key,
              body := hdr ++ (data ++ Config.cipher.auth alg transport h data) : OutFrame } →
        u = (s.modCtx n fun c => { c with heldKey := none, header := none, stage := .frame }) →
        ((s.lineAt n).tx ≠ .idle → exec (.cipherOperationComplete intact) s = .next (pump
          { (u.modLine n fun l => { l with expected := some .accept, next := some f }) with
            cipher := { s.cipher with executing := none } })) ∧
        ((s.lineAt n).tx = .idle → exec (.cipherOperationComplete intact) s = .next (pump
          { startDelivery n ((u.modCtx n fun c => { c with frameSent := true }).modLine n fun l => { l with
              expected := some .accept, tx := .sending f l.rate l.parity (frameChars f.kind.code f.body), next := none,
              rx := .closed, gapTimer := none }) with
            cipher := { s.cipher with executing := none } }))))

/-! ## Bench lines (chapters 7 and 8) -/

/-- R138, R139, R115, R126: the contact starts or stops the settle; its expiry moves presence, and the removal clears the
served mark; an arrival completes a waiting AWAIT, a removal ends any run that is not at AWAIT. A report of the level that
the contact has already (entry 5) and the expiry of a stopped settle (entry 4) change nothing: both are the model's. -/
def Obligations.Cradle : Prop :=
  ∀ (s : State) (f : Fin 8) (n : Nat) (x : BenchLine) (closed : Bool), n = f.val → x = s.lineAt n →
    (x.contact = closed → exec (.cradleContactChange f closed) s = .next (pump s)) ∧
    (x.contact ≠ closed → s.power = true → s.startUp = none → exec (.cradleContactChange f closed) s =
      .next (pump (s.setLine n
        { x with contact := closed, settle := if closed = x.presence then none else some 50 }))) ∧
    (x.settle = none → exec (.settleTimerExpiry f) s = .next (pump s)) ∧
    (x.settle.isSome → x.contact = true → ∀ u, u = s.setLine n { x with settle := none, presence := true } →
      (s.ctxAt n = none → exec (.settleTimerExpiry f) s = .next (pump u)) ∧
      (∀ c, s.ctxAt n = some c →
        (c.stage ≠ .awaiting ∨ x.served = true → exec (.settleTimerExpiry f) s = .next (pump u)) ∧
        (c.stage = .awaiting → x.served = false → c.abortPending = false → c.step + 1 = c.steps.length →
          exec (.settleTimerExpiry f) s = .next (pump (endRun n .complete
            ((u.setTimer n none).modLine n fun l => { l with expected := none })))))) ∧
    (x.settle.isSome → x.contact = false → ∀ u, u = s.setLine n
        { x with settle := none, presence := false, served := false } →
      (s.ctxAt n = none → exec (.settleTimerExpiry f) s = .next (pump u)) ∧
      (∀ c, s.ctxAt n = some c →
        (c.stage = .awaiting → exec (.settleTimerExpiry f) s = .next (pump u)) ∧
        (c.stage ≠ .awaiting → c.delivering = false →
          exec (.settleTimerExpiry f) s = .next (pump (endRun n .removed u))) ∧
        (c.stage ≠ .awaiting → c.delivering = true → exec (.settleTimerExpiry f) s = .next (pump (endRun n .removed
          (u.modDelivery n fun d => { d with phase := .unanswered, reason := none }))))))

/-- R12, R63, R117, R123, R137, R140: transmit start closes the receiver and marks the run as having sent; of a KEY frame
it is delivery start, which spends the budget, consumes the number and writes the phase. Transmit end opens the receiver
and loads the step timer. TRANSMIT_START as the beginning of a waiting frame, and as nothing where none waits, is entry 15;
TRANSMIT_END on an idle line is entry 5: both are the model's. -/
def Obligations.BenchSend : Prop :=
  ∀ (s : State) (l : Fin 8) (n : Nat) (x y : BenchLine) (f : OutFrame), n = l.val → x = s.lineAt n →
    (x.tx = .idle → x.next = none → exec (.transmitStart l) s = .next (pump s)) ∧
    (x.tx = .idle → exec (.transmitEnd l) s = .next (pump s)) ∧
    (x.tx = .idle → x.next = some f →
      y = { x with tx := .sending f x.rate x.parity (frameChars f.kind.code f.body), next := none, rx := .closed,
                   gapTimer := none } →
      (s.ctxAt n = none → exec (.transmitStart l) s = .next (pump (s.setLine n y))) ∧
      (∀ c, s.ctxAt n = some c →
        (c.ordinal ≠ f.ordinal → exec (.transmitStart l) s = .next (pump (s.setLine n y))) ∧
        (c.ordinal = f.ordinal → f.kind ≠ .key → exec (.transmitStart l) s =
          .next (pump ((s.setLine n y).modCtx n fun c => { c with frameSent := true }))) ∧
        (∀ d k al b, c.ordinal = f.ordinal → f.kind = .key → c.delivery = some d → s.slotAt d.slot = some k →
          k.allowance = some al → b ∈ k.bound → b.lane = n → ∃ t, exec (.transmitStart l) s = .next t ∧
            t.lineAt n = y ∧
            t.ctxAt n = some { c with
              frameSent := true
              deliveries := c.deliveries.modify c.deliveryIdx fun d => { d with phase := .delivering } } ∧
            t.slotAt d.slot = some { k with
              allowance := some { budget := al.budget.spend, reserved := al.reserved - 1 }
              bound := k.bound.map fun b => if b.lane = n then { b with held := b.held - 1 } else b } ∧
            (∀ m, m ≠ d.slot → t.slotAt m = s.slotAt m ∧ t.accountAt m = s.accountAt m) ∧
            (d.tki = none → t.accountAt d.slot = s.accountAt d.slot) ∧
            (d.tki.isSome → t.accountAt d.slot =
              (s.accountAt d.slot).map fun a => { a with consumed := a.consumed + 1 }) ∧
            (∀ r ∈ t.records.entries, r.closed = false → r.lane = n → r.deliveries =
              c.deliveries.modify c.deliveryIdx fun d => { d with phase := .delivering })))) ∧
    (∀ rate parity chars u, x.tx = .sending f rate parity chars → x.next = none →
      u = s.setLine n { x with
        tx := .idle, rx := if (s.laneAt n).state = .offline then .closed else .hunting } →
      (s.ctxAt n = none → exec (.transmitEnd l) s = .next (pump u)) ∧
      (∀ c, s.ctxAt n = some c →
        (c.ordinal ≠ f.ordinal ∨ c.stage ≠ .frame → exec (.transmitEnd l) s = .next (pump u)) ∧
        (∀ st, c.ordinal = f.ordinal → c.stage = .frame → c.current = some st →
          exec (.transmitEnd l) s = .next (pump (u.setTimer n (some st.timeoutMs))))))

/-- R137, R141, R142, R143: what an open receiver does with a whole frame, with an over-long announcement, with a gap and
with a character, and that a closed one takes nothing; a dropped frame is counted, up to 65,535. That the expiry of a gap
timer which does not run changes nothing is the model's (entry 4), and so is a whole frame in the place of the characters
collected (entry 8). -/
def Obligations.BenchReceive : Prop :=
  ∀ (s : State) (l : Fin 8) (n : Nat) (x : BenchLine) (kind c : Byte) (body : Text) (sum : BitVec 16) (bad pb sb : Bool),
    n = l.val → x = s.lineAt n →
    (x.rx = .closed → ∀ i ∈ [Instr.benchFrameReceived l kind body sum bad, .bodyLengthOverlong l,
      .benchCharacterReceived l c pb sb, .gapTimerExpiry l], exec i s = .next (pump s)) ∧
    (x.rx ≠ .closed → ∀ hunt drop, hunt = { x with rx := .hunting, gapTimer := none } →
      drop = { x with rx := .hunting, gapTimer := none, checkErr := min 65535 (x.checkErr + 1) } →
      exec (.bodyLengthOverlong l) s = .next (pump (s.setLine n drop)) ∧
      (body.length ≤ 200 →
        (bad = true ∨ sum ≠ frameCheck kind body →
          exec (.benchFrameReceived l kind body sum bad) s = .next (pump (s.setLine n drop))) ∧
        (bad = false → sum = frameCheck kind body →
          (x.expected = none → exec (.benchFrameReceived l kind body sum bad) s =
            .next (pump (s.setLine n { hunt with unsolicited := min 65535 (x.unsolicited + 1) }))) ∧
          (x.expected.isSome → exec (.benchFrameReceived l kind body sum bad) s =
            .next (pump (goOn n (takeReply n (decodeReply kind body) (s.setLine n hunt))))))) ∧
      (∀ chars b r p, x.rx = .collecting chars b r p → x.gapTimer.isSome →
        exec (.gapTimerExpiry l) s = .next (pump (s.setLine n drop)))) ∧
    (x.rx = .hunting →
      (c = 0xB7#8 → charError x.parity c pb sb = false → exec (.benchCharacterReceived l c pb sb) s =
        .next (pump (s.setLine n { x with rx := .collecting [c] false x.rate x.parity, gapTimer := some 20 }))) ∧
      (c ≠ 0xB7#8 ∨ charError x.parity c pb sb = true →
        exec (.benchCharacterReceived l c pb sb) s = .next (pump s)))

/-- R116, R118, R119, R120, R124, R145, R146: what a reply does at a frame step, by its kind; `u` is the lane with its line's
expected reply cleared and its timer stopped. A delivery's end writes its phase, and under a pending abort the outcome of
Table 6-5 follows. -/
def Obligations.Replies : Prop :=
  ∀ (s : State) (n : Nat) (c : RunContext) (st : Step), n < 8 → s.ctxAt n = some c → c.current = some st →
    c.stage = .frame → st.kind.isFrame = true → ∀ u, u = ((s.setTimer n none).modLine n fun l =>
      { l with expected := none }) →
    (c.waits < 3 → takeReply n .wait s =
      ((s.modCtx n fun c => { c with waits := c.waits + 1 }).setTimer n (some st.timeoutMs), .wait)) ∧
    (c.delivering = false →
      (3 ≤ c.waits → takeReply n .wait s = (u, .fin .terminalStalled none)) ∧
      (∀ why, takeReply n (.refuse why) s = (u, .fin (.terminalRefused why) none)) ∧
      takeReply n .other s = (u, .fin .protocol none) ∧
      (∀ k, takeReply n (.malformed k) s = (u, .fin .protocol none)) ∧
      (st.kind = .hail → takeReply n .ready s = (s, .done) ∧ takeReply n .done s = (u, .fin .protocol none)) ∧
      (st.kind = .seal → takeReply n .done s = (s, .done)) ∧
      (∀ p v, st.kind = .verify → st.pos = some p →
        (((c.deliveries.find? fun d => d.pos = p).bind Delivery.cv) = some v → takeReply n (.check p v) s = (s, .done)) ∧
        (((c.deliveries.find? fun d => d.pos = p).bind Delivery.cv) ≠ some v → st.cont ≠ some true →
          takeReply n (.check p v) s = (u, .fin (.checkMismatch p) none)))) ∧
    (∀ d v, c.delivering = true → c.delivery = some d →
      (d.cv = some v → takeReply n (.accept d.pos v) s =
        (s.modDelivery n fun d => { d with phase := .accepted, reason := none }, .done)) ∧
      (d.cv ≠ some v → takeReply n (.accept d.pos v) s =
        (u.modDelivery n fun d => { d with phase := .accepted, reason := none },
          .fin (if c.abortPending then .aborted (some .checkMismatch) else .checkMismatch d.pos) none)) ∧
      (∀ p, p ≠ d.pos → takeReply n (.accept p v) s =
        (u.modDelivery n fun d => { d with phase := .unanswered, reason := none },
          .fin (if c.abortPending then .aborted (some .protocol) else .protocol) none)) ∧
      (∀ why, takeReply n (.refuse why) s =
        (u.modDelivery n fun d => { d with phase := .refused, reason := some why },
          .fin (if c.abortPending then .aborted (some .terminalRefused) else .terminalRefused why) none)))

/-- R136, R141, R142, R151, R152: the characters of a frame, each with its parity bit and its stop bit, taken one by one by a
receiver that is HUNTING, come to what the whole frame comes to. -/
def Obligations.FrameCharByChar : Prop :=
  ∀ (s : State) (n : Nat) (kind : Byte) (body : Text), n < 8 → (s.lineAt n).rx = .hunting → body.length ≤ 200 →
    (frameChars kind body).foldl
        (fun t c => benchCharacter n c ((parityBit (s.lineAt n).parity c).getD false) true t) s =
      benchFrame n kind body (frameCheck kind body) false s

/-! ## Records (chapter 9) -/

/-- R167, R168, R169: READ-RECORD in its five forms and DISCARD-RECORD. Only the oldest CLOSED entry is discarded; its
removal tells every waiting lane. A DELIVERY reading of no entry is EMPTY whatever its INDEX is: EMPTY before RANGE is the
model's reading (entry 30). -/
def Obligations.RecordRequests : Prop :=
  ∀ (s : State) (tag : Text) (n o k : Nat), OperatorReady s → n < 8 → o ≤ 65535 → k < 10 ^ 8 →
    ((∀ r ∈ s.records.entries, r.closed = false) →
      exec (.readRecord tag) s = .next (refusedWith tag .empty (heard s)) ∧
      exec (.discardRecord tag (.val n) (.val o)) s = .next (refusedWith tag .mismatch (heard s))) ∧
    (∀ (pre : List Record) (r : Record) (post : List Record), s.records.entries = pre ++ r :: post →
      (∀ x ∈ pre, x.closed = false) → r.closed = true →
      exec (.readRecord tag) s = .next (replied tag r.summary (heard s)) ∧
      (r.lane ≠ n ∨ r.ordinal.toNat ≠ o →
        exec (.discardRecord tag (.val n) (.val o)) s = .next (refusedWith tag .mismatch (heard s))) ∧
      (r.lane = n → r.ordinal.toNat = o → exec (.discardRecord tag (.val n) (.val o)) s = .next (replied tag
        [.field "LANE" (.num n), .field "ORDINAL" (.num o),
          .field "FREE" (.num (48 - (pre.length + post.length)))]
        { heard s with records := { s.records with
            entries := pre ++ post, told := s.records.waiting, fullReported := false } }))) ∧
    ((∀ r ∈ s.records.entries, r.lane ≠ n ∨ r.ordinal.toNat ≠ o) →
      ∀ i ∈ [Instr.readRecordEntry tag (.val n) (.val o) false, .readRecordDelivery tag (.val n) (.val o) (.val k),
          .readRecordVoided tag (.val n) (.val o) false, .readRecordNotes tag (.val n) (.val o) false],
        exec i s = .next (refusedWith tag .empty (heard s))) ∧
    (∀ (pre : List Record) (r : Record) (post : List Record), s.records.entries = pre ++ r :: post →
      (∀ x ∈ pre, x.lane ≠ n ∨ x.ordinal.toNat ≠ o) →
      r.lane = n → r.ordinal.toNat = o → ∀ ref : List Item, ref = [.field "LANE" (.num n), .field "ORDINAL" (.num o)] →
      exec (.readRecordEntry tag (.val n) (.val o) false) s = .next (replied tag r.summary (heard s)) ∧
      exec (.readRecordVoided tag (.val n) (.val o) false) s = .next (replied tag
        (List.append ref [Item.field "VOIDED" (.raw (commaList (r.voided.map tkiText)))]) (heard s)) ∧
      exec (.readRecordNotes tag (.val n) (.val o) false) s = .next (replied tag
        (List.append ref [Item.field "NOTES" (.raw (commaList (r.notes.map noteText)))]) (heard s)) ∧
      (r.deliveries.length ≤ k → exec (.readRecordDelivery tag (.val n) (.val o) (.val k)) s =
        .next (refusedWith tag .range (heard s))) ∧
      (∀ d, r.deliveries[k]? = some d → exec (.readRecordDelivery tag (.val n) (.val o) (.val k)) s = .next (replied tag
        (ref ++ List.flatten
          [[.field "INDEX" (.num k), .field "POS" (.num d.pos), .field "SLOT" (.num d.slot),
              .field "TSLOT" (.num d.tslot)],
            (match d.cv with | some v => [.field "CV" (.hex 6 v.toNat)] | none => []),
            [.field "PHASE" (.word d.phase.word)],
            (match d.reason with | some w => [.field "REASON" (.word w.word)] | none => []),
            (match d.tki with | some t => [.field "TKI" (.raw (tkiText t))] | none => [])]) (heard s))))

/-! ## The Link Port (chapter 10) -/

/-- R172, R173, R174, R175, R177: the answers of the port itself, and what the receiver does with a character. -/
def Obligations.PortAnswers : Prop :=
  ∀ (s : State) (tag : Text) (c : Byte), LinkReady s →
    exec (.linkLineRefused .empty) s = .next (pump (heard s)) ∧
    exec (.linkLineRefused .badCheck) s = .next (pump (setReply [.word "?", .word "CHECK"] (heard s))) ∧
    exec (.linkLineRefused .noTag) s = .next (pump (setReply [.word "?", .word "TAG"] (heard s))) ∧
    exec (.linkLineRefused .overlong) s = .next (pump (setReply [.word "?", .word "LONG"] (heard s))) ∧
    (s.mode = .normal →
      exec (.linkLineRefused (.unknown tag)) s = .next (refusedWith tag .unknown (heard s)) ∧
      (∀ b, exec (.linkLineRefused (.badForm tag b)) s = .next (refusedWith tag .badSyntax (heard s)))) ∧
    (c ≠ 0x0A → s.link.buffer.length < 240 → exec (.linkCharacterReceived c) s =
      .next (pump { s with link := { s.link with buffer := s.link.buffer ++ [c] } })) ∧
    (s.link.buffer.length = 240 →
      exec (.linkCharacterReceived 0x0D) s =
        .next (pump { s with link := { s.link with buffer := s.link.buffer ++ [0x0D] } }) ∧
      (c ≠ 0x0A → c ≠ 0x0D → exec (.linkCharacterReceived c) s =
        .next (pump { s with link := { s.link with rx := .discarding, buffer := [] } }))) ∧
    (∀ i, readLine s.link.buffer = .request i → exec (.linkCharacterReceived 0x0A) s = requestLine i s) ∧
    (∀ w, readLine s.link.buffer = .refused w → exec (.linkCharacterReceived 0x0A) s = exec (.linkLineRefused w) s)

/-- R178, R180: when a line has gone out the transmitter takes the waiting reply, else the oldest notice, and the place that
frees takes the GAP line when notices were lost; at the end of a reply a held line is handled, and the receiver goes on by
the overrun mark. -/
def Obligations.Transmitter : Prop :=
  ∀ (s : State) (x : Sent), s.link.sending = some x →
    (x.isReply = false ∨ s.link.rx ≠ .holding →
      (∀ r, s.link.reply = some r → exec .linkTransmitEnd s = .next { s with link := { s.link with
        sending := some { isReply := true, line := r, wire := lineWire r }, reply := none } }) ∧
      (s.link.reply = none →
        (s.link.notices = [] →
          exec .linkTransmitEnd s = .next { s with link := { s.link with sending := none } }) ∧
        (∀ l rest, s.link.notices = l :: rest →
          (s.link.gap = false → exec .linkTransmitEnd s = .next { s with link := { s.link with
            sending := some { isReply := false, line := l, wire := lineWire l }, notices := rest } }) ∧
          (s.link.gap = true → exec .linkTransmitEnd s = .next { s with link := { s.link with
            sending := some { isReply := false, line := l, wire := lineWire l }
            notices := rest ++ [[.word "!", .word "GAP", .field "LOST" (.num s.link.lost)]]
            gap := false, lost := 0 } })))) ∧
    (x.isReply = true → s.link.rx = .holding → s.link.reply = none → s.link.notices = [] →
      (∀ w, s.link.held = some w → s.link.mark = none → exec .linkTransmitEnd s = .next (pump (handleLine w
        { s with link := { s.link with sending := none, rx := .collecting, held := none } }))) ∧
      (∀ w, s.link.held = some w → s.link.mark = some true → exec .linkTransmitEnd s = .next (pump (handleLine w
        { s with link := { s.link with sending := none, held := some (.refused .overrun), mark := none } }))) ∧
      (∀ w, s.link.held = some w → s.link.mark = some false → exec .linkTransmitEnd s = .next (pump (handleLine w
        { s with link := { s.link with sending := none, rx := .skipping, held := none, mark := none } }))))

/-- R172, R173, R174: a request line written as the manual writes it, with its check suffix, is read as that request; with
any other four digits it is answered `? CHECK`. Here the requests of one slot number. -/
def Obligations.RequestLinesRead : Prop :=
  ∀ (tag : Text) (n : Nat) (word : String) (i : Instr) (line : Text), 1 ≤ tag.length → tag.length ≤ 4 →
    tag.all isDigit = true → n < 10 ^ 8 →
    (word, i) ∈ [("SUSPEND-SLOT", Instr.suspendSlot tag (.val n)), ("RESUME-SLOT", .resumeSlot tag (.val n)),
      ("ERASE-SLOT", .eraseSlot tag (.val n)), ("READ-SLOT", .readSlot tag (.val n)),
      ("READ-ISSUE", .readIssue tag (.val n))] →
    line = tag ++ txt " " ++ txt word ++ txt " SLOT=" ++ dec n ++ txt " " →
    readLine (line ++ txt "*" ++ hexW 4 (crc16 0xFFFF#16 line).toNat ++ [0x0D]) = .request i ∧
    (∀ v : BitVec 16, v ≠ crc16 0xFFFF#16 line →
      readLine (line ++ txt "*" ++ hexW 4 v.toNat ++ [0x0D]) = .refused .badCheck)

/-! ## Tamper, start-up, STATUS and RESTART (chapters 10 and 11) -/

/-- R24, R52, R68, R132, R185, R186: a tamper event with the supply on and with it off: the latch, the slots, the accounts,
the verifiers, the assembly, the sessions, the cipher's requests and every lane; its notice comes first. The entry numbers
of the slots stay. That TAMPER_EVENT with the supply off, and TAMPER_POWER_OFF with it on, change nothing is the model's
choice (entry 5). -/
def Obligations.TamperEvent : Prop :=
  ∀ s : State,
    (s.power = false → exec .tamperEvent s = .next (pump s)) ∧
    (s.power = true → exec .tamperPowerOff s = .next (pump s)) ∧
    (s.power = true → (∀ n < 8, (s.laneAt n).state = .running → (s.ctxAt n).isSome) →
      ∃ t, exec .tamperEvent s = .next t ∧ t.latch = true ∧ (∀ n, t.slotAt n = none ∧ t.accountAt n = none) ∧
        t.keys.entryNos = s.keys.entryNos ∧ t.asm.record = none ∧ t.auth.sessions = [] ∧ t.auth.state = .none ∧
        t.auth.dualTimer = none ∧
        (∀ n, t.custodianAt n = (s.custodianAt n).map fun c =>
          { c with state := .pending, verifier := none, failed := 0 }) ∧
        (∀ q < 10, look t.cipher.waiting none q = none) ∧
        t.cipher.executing = s.cipher.executing.map (fun e => { e with dropped := true }) ∧
        (∀ n < 8, (t.laneAt n).state = (if (s.laneAt n).state = .offline then .offline else .idle) ∧
          ((s.laneAt n).state = .running → (t.laneAt n).ctx = none ∧ (t.laneAt n).queue = [] ∧
            (t.lineAt n).expected = none) ∧
          ((s.laneAt n).state = .held → (t.laneAt n).queue = []) ∧
          (t.lineAt n).tx = .idle ∧ (t.lineAt n).next = none) ∧
        (∀ (i : Nat) (r : Record), s.records.entries[i]? = some r →
          (r.closed = true → t.records.entries[i]? = some r) ∧
          (r.closed = false → r.lane < 8 → (s.laneAt r.lane).state = .running →
            ∃ r', t.records.entries[i]? = some r' ∧ r'.closed = true ∧ r'.outcome = some .tamper ∧
              r'.lane = r.lane ∧ r'.ordinal = r.ordinal ∧ r'.failStep = none)) ∧
        (s.startUp = none → s.link.sending.isSome → s.link.notices.length < 16 →
          t.link.notices[s.link.notices.length]? = some [.word "!", .word "TAMPER", .field "WHEN" (.word "RUNNING"),
            .field "SLOTS" (.num (s.keys.slots.toList.countP Option.isSome)),
            .field "ACCOUNTS" (.num (s.accounts.toList.countP Option.isSome)),
            .field "RUNS" (.num (s.lanes.toList.countP fun l => l.state = .running))])) ∧
    (s.power = false → ∃ t, exec .tamperPowerOff s = .next t ∧
      (∀ n, t.slotAt n = none ∧ t.accountAt n = none ∧
        t.custodianAt n = (s.custodianAt n).map fun c => { c with state := .pending, verifier := none, failed := 0 }) ∧
      (s.offRecord = none → t.offRecord = some
        (s.keys.slots.toList.countP Option.isSome, s.accounts.toList.countP Option.isSome)) ∧
      (s.offRecord.isSome → t.offRecord = s.offRecord) ∧
      t = pump { s with
        latch := true, keys := { s.keys with slots := t.keys.slots }, accounts := t.accounts
        auth := { s.auth with roster := t.auth.roster }, offRecord := t.offRecord })

/-- R182, R186, R188: the supply fails and returns, and a drained RESTART goes into start-up: what is lost, what is kept;
the notice of a tamper event taken meanwhile waits in the start-up hold. That POWER_LOSS with the supply off and POWER_ON
with it on change nothing (entry 5), what the beginning of start-up clears (entry 18), that START_UP_AFTER_RESTART is an
event of its own, which does nothing while the port has not drained (entry 19), and that each cradle contact keeps its level
as the supply fails (entry 23), are the model's. -/
def Obligations.PowerAndRestart : Prop :=
  ∀ s : State,
    (s.power = false → exec .powerLoss s = .next (pump s)) ∧
    (s.power = true → exec .powerOn s = .next (pump s)) ∧
    (s.power = true → ∃ t, exec .powerLoss s = .next t ∧ t.power = false ∧ t.accounts = s.accounts ∧
      t.latch = s.latch ∧ t.records.entries = s.records.entries ∧ t.offRecord = s.offRecord ∧
      t.auth = { s.auth with sessions := [], state := .none, dualTimer := none } ∧ t.asm.record = none ∧
      t.cipher.executing = none ∧ t.link.rx = .closed ∧ t.link.notices = [] ∧
      (∀ n r, s.slotAt n = some r → ∃ r', t.slotAt n = some r' ∧ r'.bound = [] ∧ r'.material = r.material ∧
        r'.state = r.state ∧ r'.allowance = r.allowance.map fun al => { al with reserved := 0 }) ∧
      (∀ n < 8, (t.laneAt n).ctx = none ∧ (t.laneAt n).queue = [] ∧ (t.lineAt n).contact = (s.lineAt n).contact)) ∧
    (s.power = false → ∃ t, exec .powerOn s = .next t ∧ t.power = true ∧ t.startUp = some .powerOn ∧
      t.cipher.selfTest = true ∧ t.link.rx = .closed ∧ t.offRecord = none ∧ t.accounts = s.accounts ∧
      t.latch = s.latch ∧ t.records.entries = s.records.entries ∧
      (s.offRecord = none → t.link.hold = []) ∧
      (∀ k a, s.offRecord = some (k, a) → t.link.hold = [[.word "!", .word "TAMPER", .field "WHEN" (.word "POWER-OFF"),
        .field "SLOTS" (.num k), .field "ACCOUNTS" (.num a), .field "RUNS" (.num 0)]])) ∧
    (s.power = true → s.startUp = none → s.link.draining = true → s.link.sending = none → s.link.reply = none →
      s.link.notices = [] → ∃ t, exec .startUpAfterRestart s = .next t ∧ t.startUp = some .restart ∧
        t.cipher.selfTest = true ∧ (∀ q < 10, look t.cipher.waiting none q = none) ∧ t.cipher.last = 9 ∧
        t.auth = { s.auth with sessions := [], state := .none, dualTimer := none } ∧ t.asm.record = none ∧
        t.link.rx = .closed ∧ t.keys = s.keys ∧ t.accounts = s.accounts ∧ t.records = s.records ∧ t.latch = s.latch) ∧
    (s.link.draining = false → exec .startUpAfterRestart s = .next (pump s))

/-- R149, R171, R188, R189, R190: the end of start-up. The self-test's four agreements give the mode; every OPEN entry is
closed INTERRUPTED; bindings, ASSEMBLING slots, drafts and retiring versions are gone; the lanes come up, all OFFLINE in
FAILED mode; STARTED is the first line to go out. That SELF_TEST_COMPLETE with no start-up under way changes nothing (entry
5), and that start-up is taken at two events (entry 18), are the model's. -/
def Obligations.StartUpEnds : Prop :=
  ∀ (s : State) (a b c d : Bool) (cause : StartCause) (m : Mode),
    (s.startUp = none → exec (.selfTestComplete a b c d) s = .next (pump s)) ∧
    (s.startUp = some cause → s.cipher.executing = none →
      m = (if a = true ∧ b = true ∧ c = true ∧ d = true then .normal else .failed) →
      ∃ t, exec (.selfTestComplete a b c d) s = .next t ∧ t.mode = m ∧ t.startUp = none ∧ t.latch = s.latch ∧
        t.link.rx = .collecting ∧
        (∃ w, t.link.sending = some { isReply := false, wire := w, line := [.word "!", .word "STARTED",
          .field "CAUSE" (.word (match cause with | .powerOn => "POWER-ON" | .restart => "RESTART")),
          .field "MODE" (.word (match m with | .normal => "NORMAL" | .failed => "FAILED")),
          .field "INTERRUPTED" (.num (s.records.entries.countP fun r => !r.closed))] }) ∧
        (∀ n < 8, (t.laneAt n).online = (s.laneAt n).online ∧ (t.laneAt n).queue = [] ∧ (t.laneAt n).ctx = none ∧
          (t.laneAt n).state = (if (s.laneAt n).online = true ∧ m = .normal then .idle else .offline) ∧
          (t.lineAt n).rx = (if (s.laneAt n).online = true ∧ m = .normal then .hunting else .closed) ∧
          (t.lineAt n).presence = false ∧ (t.lineAt n).served = false ∧
          (t.lineAt n).settle = (if (s.lineAt n).contact then some 50 else none)) ∧
        t.records.entries.length = s.records.entries.length ∧
        (∀ (i : Nat) (r : Record), s.records.entries[i]? = some r →
          (r.closed = true → t.records.entries[i]? = some r) ∧
          (r.closed = false → ∃ more, t.records.entries[i]? = some { r with
            closed := true, outcome := some .interrupted, failStep := none, voided := r.voided ++ more })) ∧
        (∀ n, (t.planAt n).draft = none ∧ (t.planAt n).retiring = none ∧ (t.planAt n).users = [] ∧
          (t.planAt n).installed = (s.planAt n).installed) ∧
        (∀ n, s.slotAt n = none → t.slotAt n = none) ∧
        (∀ n r, s.slotAt n = some r →
          (r.state = .assembling → t.slotAt n = none) ∧
          (r.state ≠ .assembling → t.slotAt n = some { r with
            bound := [], allowance := r.allowance.map fun al => { al with reserved := 0 } })) ∧
        t.keys.scrubPointer = 0 ∧
        t.keys.scrubTimer = (if m = .normal ∧ s.keys.scrubInterval ≠ 0 then some s.keys.scrubInterval else none))

/-- R181, R182, R187: STATUS answers in every mode and changes nothing; RESTART is taken when every lane is at rest; and
ACKNOWLEDGE-TAMPER clears the latch. -/
def Obligations.StatusRestartAcknowledge : Prop :=
  ∀ (s : State) (tag : Text),
    (LinkReady s → exec (.status tag) s = .next (replied tag
      [.field "MODE" (.word (match s.mode with | .normal => "NORMAL" | .failed => "FAILED")),
        .field "TAMPER" (.word (if s.latch then "SET" else "CLEAR")), .field "AUTH" (.word s.auth.state.word),
        .field "ASSEMBLY" (match s.asm.record with | some a => .num a.slot | none => .word "NONE"),
        .field "LANES" (.raw (s.lanes.toList.map fun l => l.state.letter)),
        .field "RECORDS" (.raw (dec (s.records.entries.filter fun r => !r.closed).length ++ txt ":" ++
          dec (s.records.entries.filter fun r => r.closed).length ++ txt ":" ++ dec (48 - s.records.entries.length))),
        .field "NOTICES" (.num s.link.notices.length), .field "GAP" (yesNo s.link.gap),
        .field "POLICY" (.word s.asm.policy.word), .field "SCRUB" (.num s.keys.scrubInterval),
        .field "DUALWINDOW" (.num s.auth.dualWindow)] (heard s))) ∧
    (OperatorReady s →
      ((∀ l ∈ s.lanes.toList, (l.state = .idle ∨ l.state = .offline) ∧ l.queue = []) →
        exec (.restart tag) s = .next (replied tag [.word "RESTARTING"]
          { s with link := { s.link with
              rx := .closed, buffer := [], held := none, mark := none, draining := true } })) ∧
      ((∃ l ∈ s.lanes.toList, l.state = .held ∨ l.state = .running ∨ l.queue ≠ []) →
        exec (.restart tag) s = .next (refusedWith tag .busy (heard s)))) ∧
    (CustodianReady s →
      (s.latch = true → exec (.acknowledgeTamper tag) s = .next (replied tag
        [.field "TAMPER" (.word "CLEAR")] { heardDual s with latch := false })) ∧
      (s.latch = false → exec (.acknowledgeTamper tag) s = .next (refusedWith tag .wrongState (heardDual s))))

/-- The non-volatile settings (R14, R40, R43, R70, R90, R91, R105, R134) keep their values through a tamper event, a loss
and a return of the supply, and a start-up, as the reset tables of R24, R52, R89, R104, R133 and R149 have it, and R188. The
records keep their number and order through all of these, and each its lane, ordinal, tag, iteration and plan (R161, R171,
R189). -/
def Obligations.NonVolatileKept : Prop :=
  ∀ (s t : State) (c : Instr), (c ∈ [.tamperEvent, .tamperPowerOff, .powerLoss, .powerOn, .startUpAfterRestart] ∨
      ∃ a b d e, c = .selfTestComplete a b d e) → exec c s = .next t →
    t.auth.dualWindow = s.auth.dualWindow ∧ t.asm.policy = s.asm.policy ∧
    t.keys.scrubInterval = s.keys.scrubInterval ∧ t.windows = s.windows ∧ t.defaultRoute = s.defaultRoute ∧
    (∀ n, (t.laneAt n).online = (s.laneAt n).online ∧ (t.laneAt n).ordinal = (s.laneAt n).ordinal ∧
      (t.lineAt n).rate = (s.lineAt n).rate ∧ (t.lineAt n).parity = (s.lineAt n).parity ∧
      (t.planAt n).installed = (s.planAt n).installed ∧ (t.planAt n).counter = (s.planAt n).counter) ∧
    t.records.entries.map (fun r => (r.lane, r.ordinal, r.tag, r.iteration, r.plan)) =
      s.records.entries.map (fun r => (r.lane, r.ordinal, r.tag, r.iteration, r.plan))

/-! ## Laws of the whole module -/

/-- R53, R54, R64, R68, R105, R143, R161, R179: what every step of the module keeps. The Record Queue holds at most 48
entries, the notice buffer at most 16 lines and a 16-bit lost count, each run queue at most 4 requests, each line's counters
16-bit numbers. An account exists only for a ROOT slot that is not ASSEMBLING; in every account N lies from F to L + S at a
multiple of S from F, and the returned list is ascending with at most 8 numbers; and N never decreases. The last holds with
every installed or retiring version valid (R84), which every step keeps too: no root slot is drawn on twice by one
request. -/
def Obligations.StoreLawsKept : Prop :=
  (∀ s t : State, RecordsFit s → NoticesFit s → QueuesFit s → CountersFit s → step s = .next t →
     RecordsFit t ∧ NoticesFit t ∧ QueuesFit t ∧ CountersFit t) ∧
  (∀ s t : State, VersionsValid s → step s = .next t → VersionsValid t) ∧
  (∀ s t : State, VersionsValid s → AccountsOwned s → (∀ n a, s.accountAt n = some a → AccountLawful a) →
     step s = .next t → AccountsOwned t ∧ (∀ n a, t.accountAt n = some a → AccountLawful a) ∧
     (∀ n a b, s.accountAt n = some a → t.accountAt n = some b → a.next ≤ b.next))

/-- The state after reset keeps the laws that every step keeps, and is what R14, R16, R40, R43, R70, R90, R91, R105, R133,
R134, R185 and R188 give; what it holds beyond that is the model's choice (entries 1 and 2). -/
def Obligations.ResetState : Prop :=
  RecordsFit State.reset ∧ NoticesFit State.reset ∧ QueuesFit State.reset ∧ CountersFit State.reset ∧
    SessionsLawful State.reset ∧ VersionsValid State.reset ∧ AccountsOwned State.reset ∧ BudgetLawful State.reset ∧
    (∀ n a, State.reset.accountAt n = some a → AccountLawful a) ∧
    State.reset.keys.scrubInterval = 30 ∧ State.reset.keys.scrubTimer = some 30 ∧ State.reset.keys.scrubPointer = 0 ∧
    (∀ n < 64, look State.reset.keys.entryNos 0 n = 0) ∧ State.reset.auth.dualWindow = 300 ∧
    State.reset.asm.policy = .adjust ∧ State.reset.auth.state = .none ∧ State.reset.cipher.last = 9 ∧
    State.reset.defaultRoute = .reject ∧ (∀ n < 16, State.reset.windowAt n = none) ∧
    (∀ n < 16, (State.reset.planAt n).counter = 0 ∧ (State.reset.planAt n).installed = none) ∧
    (∀ n < 8, (State.reset.laneAt n).state = .idle ∧ (State.reset.laneAt n).online = true ∧
      (State.reset.laneAt n).ordinal = 0 ∧ (State.reset.lineAt n).rate = .r19200 ∧
      (State.reset.lineAt n).parity = .none ∧ (State.reset.lineAt n).rx = .hunting) ∧
    State.reset.latch = false ∧ State.reset.mode = .normal ∧ State.reset.link.rx = .collecting ∧
    State.reset.pending = []
end

