-- ==== Sys2Proof/Laws/State.lean ====
section
/-! SUPPORT. What each named update of the state leaves as it is: one lemma for each field, true by unfolding the update
once. -/

namespace Sys2Proof.Machine

section setSlot
variable (s : State) (n : Nat) (x : Slot)
@[simp] theorem State.setSlot_link : (s.setSlot n x).link = s.link := rfl
@[simp] theorem State.setSlot_panel : (s.setSlot n x).panel = s.panel := rfl
@[simp] theorem State.setSlot_auth : (s.setSlot n x).auth = s.auth := rfl
@[simp] theorem State.setSlot_asm : (s.setSlot n x).asm = s.asm := rfl
@[simp] theorem State.setSlot_cipher : (s.setSlot n x).cipher = s.cipher := rfl
@[simp] theorem State.setSlot_accounts : (s.setSlot n x).accounts = s.accounts := rfl
@[simp] theorem State.setSlot_plans : (s.setSlot n x).plans = s.plans := rfl
@[simp] theorem State.setSlot_windows : (s.setSlot n x).windows = s.windows := rfl
@[simp] theorem State.setSlot_defaultRoute : (s.setSlot n x).defaultRoute = s.defaultRoute := rfl
@[simp] theorem State.setSlot_lanes : (s.setSlot n x).lanes = s.lanes := rfl
@[simp] theorem State.setSlot_lines : (s.setSlot n x).lines = s.lines := rfl
@[simp] theorem State.setSlot_records : (s.setSlot n x).records = s.records := rfl
@[simp] theorem State.setSlot_latch : (s.setSlot n x).latch = s.latch := rfl
@[simp] theorem State.setSlot_offRecord : (s.setSlot n x).offRecord = s.offRecord := rfl
@[simp] theorem State.setSlot_mode : (s.setSlot n x).mode = s.mode := rfl
@[simp] theorem State.setSlot_startUp : (s.setSlot n x).startUp = s.startUp := rfl
@[simp] theorem State.setSlot_power : (s.setSlot n x).power = s.power := rfl
@[simp] theorem State.setSlot_pending : (s.setSlot n x).pending = s.pending := rfl
end setSlot

section setAccount
variable (s : State) (n : Nat) (a : Option Account)
@[simp] theorem State.setAccount_link : (s.setAccount n a).link = s.link := rfl
@[simp] theorem State.setAccount_panel : (s.setAccount n a).panel = s.panel := rfl
@[simp] theorem State.setAccount_auth : (s.setAccount n a).auth = s.auth := rfl
@[simp] theorem State.setAccount_asm : (s.setAccount n a).asm = s.asm := rfl
@[simp] theorem State.setAccount_keys : (s.setAccount n a).keys = s.keys := rfl
@[simp] theorem State.setAccount_cipher : (s.setAccount n a).cipher = s.cipher := rfl
@[simp] theorem State.setAccount_plans : (s.setAccount n a).plans = s.plans := rfl
@[simp] theorem State.setAccount_windows : (s.setAccount n a).windows = s.windows := rfl
@[simp] theorem State.setAccount_defaultRoute : (s.setAccount n a).defaultRoute = s.defaultRoute := rfl
@[simp] theorem State.setAccount_lanes : (s.setAccount n a).lanes = s.lanes := rfl
@[simp] theorem State.setAccount_lines : (s.setAccount n a).lines = s.lines := rfl
@[simp] theorem State.setAccount_records : (s.setAccount n a).records = s.records := rfl
@[simp] theorem State.setAccount_latch : (s.setAccount n a).latch = s.latch := rfl
@[simp] theorem State.setAccount_offRecord : (s.setAccount n a).offRecord = s.offRecord := rfl
@[simp] theorem State.setAccount_mode : (s.setAccount n a).mode = s.mode := rfl
@[simp] theorem State.setAccount_startUp : (s.setAccount n a).startUp = s.startUp := rfl
@[simp] theorem State.setAccount_power : (s.setAccount n a).power = s.power := rfl
@[simp] theorem State.setAccount_pending : (s.setAccount n a).pending = s.pending := rfl
end setAccount

section setPlan
variable (s : State) (n : Nat) (p : Plan)
@[simp] theorem State.setPlan_link : (s.setPlan n p).link = s.link := rfl
@[simp] theorem State.setPlan_panel : (s.setPlan n p).panel = s.panel := rfl
@[simp] theorem State.setPlan_auth : (s.setPlan n p).auth = s.auth := rfl
@[simp] theorem State.setPlan_asm : (s.setPlan n p).asm = s.asm := rfl
@[simp] theorem State.setPlan_keys : (s.setPlan n p).keys = s.keys := rfl
@[simp] theorem State.setPlan_cipher : (s.setPlan n p).cipher = s.cipher := rfl
@[simp] theorem State.setPlan_accounts : (s.setPlan n p).accounts = s.accounts := rfl
@[simp] theorem State.setPlan_windows : (s.setPlan n p).windows = s.windows := rfl
@[simp] theorem State.setPlan_defaultRoute : (s.setPlan n p).defaultRoute = s.defaultRoute := rfl
@[simp] theorem State.setPlan_lanes : (s.setPlan n p).lanes = s.lanes := rfl
@[simp] theorem State.setPlan_lines : (s.setPlan n p).lines = s.lines := rfl
@[simp] theorem State.setPlan_records : (s.setPlan n p).records = s.records := rfl
@[simp] theorem State.setPlan_latch : (s.setPlan n p).latch = s.latch := rfl
@[simp] theorem State.setPlan_offRecord : (s.setPlan n p).offRecord = s.offRecord := rfl
@[simp] theorem State.setPlan_mode : (s.setPlan n p).mode = s.mode := rfl
@[simp] theorem State.setPlan_startUp : (s.setPlan n p).startUp = s.startUp := rfl
@[simp] theorem State.setPlan_power : (s.setPlan n p).power = s.power := rfl
@[simp] theorem State.setPlan_pending : (s.setPlan n p).pending = s.pending := rfl
end setPlan

section setWindow
variable (s : State) (n : Nat) (w : Option Window)
@[simp] theorem State.setWindow_link : (s.setWindow n w).link = s.link := rfl
@[simp] theorem State.setWindow_panel : (s.setWindow n w).panel = s.panel := rfl
@[simp] theorem State.setWindow_auth : (s.setWindow n w).auth = s.auth := rfl
@[simp] theorem State.setWindow_asm : (s.setWindow n w).asm = s.asm := rfl
@[simp] theorem State.setWindow_keys : (s.setWindow n w).keys = s.keys := rfl
@[simp] theorem State.setWindow_cipher : (s.setWindow n w).cipher = s.cipher := rfl
@[simp] theorem State.setWindow_accounts : (s.setWindow n w).accounts = s.accounts := rfl
@[simp] theorem State.setWindow_plans : (s.setWindow n w).plans = s.plans := rfl
@[simp] theorem State.setWindow_defaultRoute : (s.setWindow n w).defaultRoute = s.defaultRoute := rfl
@[simp] theorem State.setWindow_lanes : (s.setWindow n w).lanes = s.lanes := rfl
@[simp] theorem State.setWindow_lines : (s.setWindow n w).lines = s.lines := rfl
@[simp] theorem State.setWindow_records : (s.setWindow n w).records = s.records := rfl
@[simp] theorem State.setWindow_latch : (s.setWindow n w).latch = s.latch := rfl
@[simp] theorem State.setWindow_offRecord : (s.setWindow n w).offRecord = s.offRecord := rfl
@[simp] theorem State.setWindow_mode : (s.setWindow n w).mode = s.mode := rfl
@[simp] theorem State.setWindow_startUp : (s.setWindow n w).startUp = s.startUp := rfl
@[simp] theorem State.setWindow_power : (s.setWindow n w).power = s.power := rfl
@[simp] theorem State.setWindow_pending : (s.setWindow n w).pending = s.pending := rfl
end setWindow

section setLane
variable (s : State) (n : Nat) (l : Lane)
@[simp] theorem State.setLane_link : (s.setLane n l).link = s.link := rfl
@[simp] theorem State.setLane_panel : (s.setLane n l).panel = s.panel := rfl
@[simp] theorem State.setLane_auth : (s.setLane n l).auth = s.auth := rfl
@[simp] theorem State.setLane_asm : (s.setLane n l).asm = s.asm := rfl
@[simp] theorem State.setLane_keys : (s.setLane n l).keys = s.keys := rfl
@[simp] theorem State.setLane_cipher : (s.setLane n l).cipher = s.cipher := rfl
@[simp] theorem State.setLane_accounts : (s.setLane n l).accounts = s.accounts := rfl
@[simp] theorem State.setLane_plans : (s.setLane n l).plans = s.plans := rfl
@[simp] theorem State.setLane_windows : (s.setLane n l).windows = s.windows := rfl
@[simp] theorem State.setLane_defaultRoute : (s.setLane n l).defaultRoute = s.defaultRoute := rfl
@[simp] theorem State.setLane_lines : (s.setLane n l).lines = s.lines := rfl
@[simp] theorem State.setLane_records : (s.setLane n l).records = s.records := rfl
@[simp] theorem State.setLane_latch : (s.setLane n l).latch = s.latch := rfl
@[simp] theorem State.setLane_offRecord : (s.setLane n l).offRecord = s.offRecord := rfl
@[simp] theorem State.setLane_mode : (s.setLane n l).mode = s.mode := rfl
@[simp] theorem State.setLane_startUp : (s.setLane n l).startUp = s.startUp := rfl
@[simp] theorem State.setLane_power : (s.setLane n l).power = s.power := rfl
@[simp] theorem State.setLane_pending : (s.setLane n l).pending = s.pending := rfl
end setLane

section setLine
variable (s : State) (n : Nat) (l : BenchLine)
@[simp] theorem State.setLine_link : (s.setLine n l).link = s.link := rfl
@[simp] theorem State.setLine_panel : (s.setLine n l).panel = s.panel := rfl
@[simp] theorem State.setLine_auth : (s.setLine n l).auth = s.auth := rfl
@[simp] theorem State.setLine_asm : (s.setLine n l).asm = s.asm := rfl
@[simp] theorem State.setLine_keys : (s.setLine n l).keys = s.keys := rfl
@[simp] theorem State.setLine_cipher : (s.setLine n l).cipher = s.cipher := rfl
@[simp] theorem State.setLine_accounts : (s.setLine n l).accounts = s.accounts := rfl
@[simp] theorem State.setLine_plans : (s.setLine n l).plans = s.plans := rfl
@[simp] theorem State.setLine_windows : (s.setLine n l).windows = s.windows := rfl
@[simp] theorem State.setLine_defaultRoute : (s.setLine n l).defaultRoute = s.defaultRoute := rfl
@[simp] theorem State.setLine_lanes : (s.setLine n l).lanes = s.lanes := rfl
@[simp] theorem State.setLine_records : (s.setLine n l).records = s.records := rfl
@[simp] theorem State.setLine_latch : (s.setLine n l).latch = s.latch := rfl
@[simp] theorem State.setLine_offRecord : (s.setLine n l).offRecord = s.offRecord := rfl
@[simp] theorem State.setLine_mode : (s.setLine n l).mode = s.mode := rfl
@[simp] theorem State.setLine_startUp : (s.setLine n l).startUp = s.startUp := rfl
@[simp] theorem State.setLine_power : (s.setLine n l).power = s.power := rfl
@[simp] theorem State.setLine_pending : (s.setLine n l).pending = s.pending := rfl
end setLine

section modLane
variable (s : State) (n : Nat) (f : Lane → Lane)
@[simp] theorem State.modLane_link : (s.modLane n f).link = s.link := rfl
@[simp] theorem State.modLane_panel : (s.modLane n f).panel = s.panel := rfl
@[simp] theorem State.modLane_auth : (s.modLane n f).auth = s.auth := rfl
@[simp] theorem State.modLane_asm : (s.modLane n f).asm = s.asm := rfl
@[simp] theorem State.modLane_keys : (s.modLane n f).keys = s.keys := rfl
@[simp] theorem State.modLane_cipher : (s.modLane n f).cipher = s.cipher := rfl
@[simp] theorem State.modLane_accounts : (s.modLane n f).accounts = s.accounts := rfl
@[simp] theorem State.modLane_plans : (s.modLane n f).plans = s.plans := rfl
@[simp] theorem State.modLane_windows : (s.modLane n f).windows = s.windows := rfl
@[simp] theorem State.modLane_defaultRoute : (s.modLane n f).defaultRoute = s.defaultRoute := rfl
@[simp] theorem State.modLane_lines : (s.modLane n f).lines = s.lines := rfl
@[simp] theorem State.modLane_records : (s.modLane n f).records = s.records := rfl
@[simp] theorem State.modLane_latch : (s.modLane n f).latch = s.latch := rfl
@[simp] theorem State.modLane_offRecord : (s.modLane n f).offRecord = s.offRecord := rfl
@[simp] theorem State.modLane_mode : (s.modLane n f).mode = s.mode := rfl
@[simp] theorem State.modLane_startUp : (s.modLane n f).startUp = s.startUp := rfl
@[simp] theorem State.modLane_power : (s.modLane n f).power = s.power := rfl
@[simp] theorem State.modLane_pending : (s.modLane n f).pending = s.pending := rfl
end modLane

section modLine
variable (s : State) (n : Nat) (f : BenchLine → BenchLine)
@[simp] theorem State.modLine_link : (s.modLine n f).link = s.link := rfl
@[simp] theorem State.modLine_panel : (s.modLine n f).panel = s.panel := rfl
@[simp] theorem State.modLine_auth : (s.modLine n f).auth = s.auth := rfl
@[simp] theorem State.modLine_asm : (s.modLine n f).asm = s.asm := rfl
@[simp] theorem State.modLine_keys : (s.modLine n f).keys = s.keys := rfl
@[simp] theorem State.modLine_cipher : (s.modLine n f).cipher = s.cipher := rfl
@[simp] theorem State.modLine_accounts : (s.modLine n f).accounts = s.accounts := rfl
@[simp] theorem State.modLine_plans : (s.modLine n f).plans = s.plans := rfl
@[simp] theorem State.modLine_windows : (s.modLine n f).windows = s.windows := rfl
@[simp] theorem State.modLine_defaultRoute : (s.modLine n f).defaultRoute = s.defaultRoute := rfl
@[simp] theorem State.modLine_lanes : (s.modLine n f).lanes = s.lanes := rfl
@[simp] theorem State.modLine_records : (s.modLine n f).records = s.records := rfl
@[simp] theorem State.modLine_latch : (s.modLine n f).latch = s.latch := rfl
@[simp] theorem State.modLine_offRecord : (s.modLine n f).offRecord = s.offRecord := rfl
@[simp] theorem State.modLine_mode : (s.modLine n f).mode = s.mode := rfl
@[simp] theorem State.modLine_startUp : (s.modLine n f).startUp = s.startUp := rfl
@[simp] theorem State.modLine_power : (s.modLine n f).power = s.power := rfl
@[simp] theorem State.modLine_pending : (s.modLine n f).pending = s.pending := rfl
end modLine

section modCtx
variable (s : State) (n : Nat) (f : RunContext → RunContext)
@[simp] theorem State.modCtx_link : (s.modCtx n f).link = s.link := rfl
@[simp] theorem State.modCtx_panel : (s.modCtx n f).panel = s.panel := rfl
@[simp] theorem State.modCtx_auth : (s.modCtx n f).auth = s.auth := rfl
@[simp] theorem State.modCtx_asm : (s.modCtx n f).asm = s.asm := rfl
@[simp] theorem State.modCtx_keys : (s.modCtx n f).keys = s.keys := rfl
@[simp] theorem State.modCtx_cipher : (s.modCtx n f).cipher = s.cipher := rfl
@[simp] theorem State.modCtx_accounts : (s.modCtx n f).accounts = s.accounts := rfl
@[simp] theorem State.modCtx_plans : (s.modCtx n f).plans = s.plans := rfl
@[simp] theorem State.modCtx_windows : (s.modCtx n f).windows = s.windows := rfl
@[simp] theorem State.modCtx_defaultRoute : (s.modCtx n f).defaultRoute = s.defaultRoute := rfl
@[simp] theorem State.modCtx_lines : (s.modCtx n f).lines = s.lines := rfl
@[simp] theorem State.modCtx_records : (s.modCtx n f).records = s.records := rfl
@[simp] theorem State.modCtx_latch : (s.modCtx n f).latch = s.latch := rfl
@[simp] theorem State.modCtx_offRecord : (s.modCtx n f).offRecord = s.offRecord := rfl
@[simp] theorem State.modCtx_mode : (s.modCtx n f).mode = s.mode := rfl
@[simp] theorem State.modCtx_startUp : (s.modCtx n f).startUp = s.startUp := rfl
@[simp] theorem State.modCtx_power : (s.modCtx n f).power = s.power := rfl
@[simp] theorem State.modCtx_pending : (s.modCtx n f).pending = s.pending := rfl
end modCtx

section setStage
variable (s : State) (n : Nat) (g : Stage)
@[simp] theorem State.setStage_link : (s.setStage n g).link = s.link := rfl
@[simp] theorem State.setStage_panel : (s.setStage n g).panel = s.panel := rfl
@[simp] theorem State.setStage_auth : (s.setStage n g).auth = s.auth := rfl
@[simp] theorem State.setStage_asm : (s.setStage n g).asm = s.asm := rfl
@[simp] theorem State.setStage_keys : (s.setStage n g).keys = s.keys := rfl
@[simp] theorem State.setStage_cipher : (s.setStage n g).cipher = s.cipher := rfl
@[simp] theorem State.setStage_accounts : (s.setStage n g).accounts = s.accounts := rfl
@[simp] theorem State.setStage_plans : (s.setStage n g).plans = s.plans := rfl
@[simp] theorem State.setStage_windows : (s.setStage n g).windows = s.windows := rfl
@[simp] theorem State.setStage_defaultRoute : (s.setStage n g).defaultRoute = s.defaultRoute := rfl
@[simp] theorem State.setStage_lines : (s.setStage n g).lines = s.lines := rfl
@[simp] theorem State.setStage_records : (s.setStage n g).records = s.records := rfl
@[simp] theorem State.setStage_latch : (s.setStage n g).latch = s.latch := rfl
@[simp] theorem State.setStage_offRecord : (s.setStage n g).offRecord = s.offRecord := rfl
@[simp] theorem State.setStage_mode : (s.setStage n g).mode = s.mode := rfl
@[simp] theorem State.setStage_startUp : (s.setStage n g).startUp = s.startUp := rfl
@[simp] theorem State.setStage_power : (s.setStage n g).power = s.power := rfl
@[simp] theorem State.setStage_pending : (s.setStage n g).pending = s.pending := rfl
end setStage

section setTimer
variable (s : State) (n : Nat) (t : Option Nat)
@[simp] theorem State.setTimer_link : (s.setTimer n t).link = s.link := rfl
@[simp] theorem State.setTimer_panel : (s.setTimer n t).panel = s.panel := rfl
@[simp] theorem State.setTimer_auth : (s.setTimer n t).auth = s.auth := rfl
@[simp] theorem State.setTimer_asm : (s.setTimer n t).asm = s.asm := rfl
@[simp] theorem State.setTimer_keys : (s.setTimer n t).keys = s.keys := rfl
@[simp] theorem State.setTimer_cipher : (s.setTimer n t).cipher = s.cipher := rfl
@[simp] theorem State.setTimer_accounts : (s.setTimer n t).accounts = s.accounts := rfl
@[simp] theorem State.setTimer_plans : (s.setTimer n t).plans = s.plans := rfl
@[simp] theorem State.setTimer_windows : (s.setTimer n t).windows = s.windows := rfl
@[simp] theorem State.setTimer_defaultRoute : (s.setTimer n t).defaultRoute = s.defaultRoute := rfl
@[simp] theorem State.setTimer_lines : (s.setTimer n t).lines = s.lines := rfl
@[simp] theorem State.setTimer_records : (s.setTimer n t).records = s.records := rfl
@[simp] theorem State.setTimer_latch : (s.setTimer n t).latch = s.latch := rfl
@[simp] theorem State.setTimer_offRecord : (s.setTimer n t).offRecord = s.offRecord := rfl
@[simp] theorem State.setTimer_mode : (s.setTimer n t).mode = s.mode := rfl
@[simp] theorem State.setTimer_startUp : (s.setTimer n t).startUp = s.startUp := rfl
@[simp] theorem State.setTimer_power : (s.setTimer n t).power = s.power := rfl
@[simp] theorem State.setTimer_pending : (s.setTimer n t).pending = s.pending := rfl
end setTimer

section modOpen
variable (s : State) (n : Nat) (f : Record → Record)
@[simp] theorem State.modOpen_link : (s.modOpen n f).link = s.link := rfl
@[simp] theorem State.modOpen_panel : (s.modOpen n f).panel = s.panel := rfl
@[simp] theorem State.modOpen_auth : (s.modOpen n f).auth = s.auth := rfl
@[simp] theorem State.modOpen_asm : (s.modOpen n f).asm = s.asm := rfl
@[simp] theorem State.modOpen_keys : (s.modOpen n f).keys = s.keys := rfl
@[simp] theorem State.modOpen_cipher : (s.modOpen n f).cipher = s.cipher := rfl
@[simp] theorem State.modOpen_accounts : (s.modOpen n f).accounts = s.accounts := rfl
@[simp] theorem State.modOpen_plans : (s.modOpen n f).plans = s.plans := rfl
@[simp] theorem State.modOpen_windows : (s.modOpen n f).windows = s.windows := rfl
@[simp] theorem State.modOpen_defaultRoute : (s.modOpen n f).defaultRoute = s.defaultRoute := rfl
@[simp] theorem State.modOpen_lanes : (s.modOpen n f).lanes = s.lanes := rfl
@[simp] theorem State.modOpen_lines : (s.modOpen n f).lines = s.lines := rfl
@[simp] theorem State.modOpen_latch : (s.modOpen n f).latch = s.latch := rfl
@[simp] theorem State.modOpen_offRecord : (s.modOpen n f).offRecord = s.offRecord := rfl
@[simp] theorem State.modOpen_mode : (s.modOpen n f).mode = s.mode := rfl
@[simp] theorem State.modOpen_startUp : (s.modOpen n f).startUp = s.startUp := rfl
@[simp] theorem State.modOpen_power : (s.modOpen n f).power = s.power := rfl
@[simp] theorem State.modOpen_pending : (s.modOpen n f).pending = s.pending := rfl
end modOpen

section emptySlot
variable (s : State) (n : Nat)
@[simp] theorem State.emptySlot_link : (s.emptySlot n).link = s.link := rfl
@[simp] theorem State.emptySlot_panel : (s.emptySlot n).panel = s.panel := rfl
@[simp] theorem State.emptySlot_auth : (s.emptySlot n).auth = s.auth := rfl
@[simp] theorem State.emptySlot_asm : (s.emptySlot n).asm = s.asm := rfl
@[simp] theorem State.emptySlot_cipher : (s.emptySlot n).cipher = s.cipher := rfl
@[simp] theorem State.emptySlot_plans : (s.emptySlot n).plans = s.plans := rfl
@[simp] theorem State.emptySlot_windows : (s.emptySlot n).windows = s.windows := rfl
@[simp] theorem State.emptySlot_defaultRoute : (s.emptySlot n).defaultRoute = s.defaultRoute := rfl
@[simp] theorem State.emptySlot_lanes : (s.emptySlot n).lanes = s.lanes := rfl
@[simp] theorem State.emptySlot_lines : (s.emptySlot n).lines = s.lines := rfl
@[simp] theorem State.emptySlot_records : (s.emptySlot n).records = s.records := rfl
@[simp] theorem State.emptySlot_latch : (s.emptySlot n).latch = s.latch := rfl
@[simp] theorem State.emptySlot_offRecord : (s.emptySlot n).offRecord = s.offRecord := rfl
@[simp] theorem State.emptySlot_mode : (s.emptySlot n).mode = s.mode := rfl
@[simp] theorem State.emptySlot_startUp : (s.emptySlot n).startUp = s.startUp := rfl
@[simp] theorem State.emptySlot_power : (s.emptySlot n).power = s.power := rfl
@[simp] theorem State.emptySlot_pending : (s.emptySlot n).pending = s.pending := rfl
end emptySlot

section setAsm
variable (s : State) (r : Option Assembly)
@[simp] theorem State.setAsm_link : (s.setAsm r).link = s.link := rfl
@[simp] theorem State.setAsm_panel : (s.setAsm r).panel = s.panel := rfl
@[simp] theorem State.setAsm_auth : (s.setAsm r).auth = s.auth := rfl
@[simp] theorem State.setAsm_keys : (s.setAsm r).keys = s.keys := rfl
@[simp] theorem State.setAsm_cipher : (s.setAsm r).cipher = s.cipher := rfl
@[simp] theorem State.setAsm_accounts : (s.setAsm r).accounts = s.accounts := rfl
@[simp] theorem State.setAsm_plans : (s.setAsm r).plans = s.plans := rfl
@[simp] theorem State.setAsm_windows : (s.setAsm r).windows = s.windows := rfl
@[simp] theorem State.setAsm_defaultRoute : (s.setAsm r).defaultRoute = s.defaultRoute := rfl
@[simp] theorem State.setAsm_lanes : (s.setAsm r).lanes = s.lanes := rfl
@[simp] theorem State.setAsm_lines : (s.setAsm r).lines = s.lines := rfl
@[simp] theorem State.setAsm_records : (s.setAsm r).records = s.records := rfl
@[simp] theorem State.setAsm_latch : (s.setAsm r).latch = s.latch := rfl
@[simp] theorem State.setAsm_offRecord : (s.setAsm r).offRecord = s.offRecord := rfl
@[simp] theorem State.setAsm_mode : (s.setAsm r).mode = s.mode := rfl
@[simp] theorem State.setAsm_startUp : (s.setAsm r).startUp = s.startUp := rfl
@[simp] theorem State.setAsm_power : (s.setAsm r).power = s.power := rfl
@[simp] theorem State.setAsm_pending : (s.setAsm r).pending = s.pending := rfl
end setAsm

section setReply
variable (s : State) (l : Line)
@[simp] theorem setReply_panel : (setReply l s).panel = s.panel := rfl
@[simp] theorem setReply_auth : (setReply l s).auth = s.auth := rfl
@[simp] theorem setReply_asm : (setReply l s).asm = s.asm := rfl
@[simp] theorem setReply_keys : (setReply l s).keys = s.keys := rfl
@[simp] theorem setReply_cipher : (setReply l s).cipher = s.cipher := rfl
@[simp] theorem setReply_accounts : (setReply l s).accounts = s.accounts := rfl
@[simp] theorem setReply_plans : (setReply l s).plans = s.plans := rfl
@[simp] theorem setReply_windows : (setReply l s).windows = s.windows := rfl
@[simp] theorem setReply_defaultRoute : (setReply l s).defaultRoute = s.defaultRoute := rfl
@[simp] theorem setReply_lanes : (setReply l s).lanes = s.lanes := rfl
@[simp] theorem setReply_lines : (setReply l s).lines = s.lines := rfl
@[simp] theorem setReply_records : (setReply l s).records = s.records := rfl
@[simp] theorem setReply_latch : (setReply l s).latch = s.latch := rfl
@[simp] theorem setReply_offRecord : (setReply l s).offRecord = s.offRecord := rfl
@[simp] theorem setReply_mode : (setReply l s).mode = s.mode := rfl
@[simp] theorem setReply_startUp : (setReply l s).startUp = s.startUp := rfl
@[simp] theorem setReply_power : (setReply l s).power = s.power := rfl
@[simp] theorem setReply_pending : (setReply l s).pending = s.pending := rfl
end setReply

section setRx
variable (s : State) (r : LinkRx)
@[simp] theorem setRx_panel : (setRx r s).panel = s.panel := rfl
@[simp] theorem setRx_auth : (setRx r s).auth = s.auth := rfl
@[simp] theorem setRx_asm : (setRx r s).asm = s.asm := rfl
@[simp] theorem setRx_keys : (setRx r s).keys = s.keys := rfl
@[simp] theorem setRx_cipher : (setRx r s).cipher = s.cipher := rfl
@[simp] theorem setRx_accounts : (setRx r s).accounts = s.accounts := rfl
@[simp] theorem setRx_plans : (setRx r s).plans = s.plans := rfl
@[simp] theorem setRx_windows : (setRx r s).windows = s.windows := rfl
@[simp] theorem setRx_defaultRoute : (setRx r s).defaultRoute = s.defaultRoute := rfl
@[simp] theorem setRx_lanes : (setRx r s).lanes = s.lanes := rfl
@[simp] theorem setRx_lines : (setRx r s).lines = s.lines := rfl
@[simp] theorem setRx_records : (setRx r s).records = s.records := rfl
@[simp] theorem setRx_latch : (setRx r s).latch = s.latch := rfl
@[simp] theorem setRx_offRecord : (setRx r s).offRecord = s.offRecord := rfl
@[simp] theorem setRx_mode : (setRx r s).mode = s.mode := rfl
@[simp] theorem setRx_startUp : (setRx r s).startUp = s.startUp := rfl
@[simp] theorem setRx_power : (setRx r s).power = s.power := rfl
@[simp] theorem setRx_pending : (setRx r s).pending = s.pending := rfl
end setRx

section pump
variable (s : State)
@[simp] theorem pump_panel : (pump s).panel = s.panel := rfl
@[simp] theorem pump_auth : (pump s).auth = s.auth := rfl
@[simp] theorem pump_asm : (pump s).asm = s.asm := rfl
@[simp] theorem pump_keys : (pump s).keys = s.keys := rfl
@[simp] theorem pump_cipher : (pump s).cipher = s.cipher := rfl
@[simp] theorem pump_accounts : (pump s).accounts = s.accounts := rfl
@[simp] theorem pump_plans : (pump s).plans = s.plans := rfl
@[simp] theorem pump_windows : (pump s).windows = s.windows := rfl
@[simp] theorem pump_defaultRoute : (pump s).defaultRoute = s.defaultRoute := rfl
@[simp] theorem pump_lanes : (pump s).lanes = s.lanes := rfl
@[simp] theorem pump_lines : (pump s).lines = s.lines := rfl
@[simp] theorem pump_records : (pump s).records = s.records := rfl
@[simp] theorem pump_latch : (pump s).latch = s.latch := rfl
@[simp] theorem pump_offRecord : (pump s).offRecord = s.offRecord := rfl
@[simp] theorem pump_mode : (pump s).mode = s.mode := rfl
@[simp] theorem pump_startUp : (pump s).startUp = s.startUp := rfl
@[simp] theorem pump_power : (pump s).power = s.power := rfl
@[simp] theorem pump_pending : (pump s).pending = s.pending := rfl
end pump

section withdraw
variable (s : State) (q : Nat)
@[simp] theorem withdraw_link : (withdraw q s).link = s.link := rfl
@[simp] theorem withdraw_panel : (withdraw q s).panel = s.panel := rfl
@[simp] theorem withdraw_auth : (withdraw q s).auth = s.auth := rfl
@[simp] theorem withdraw_asm : (withdraw q s).asm = s.asm := rfl
@[simp] theorem withdraw_keys : (withdraw q s).keys = s.keys := rfl
@[simp] theorem withdraw_accounts : (withdraw q s).accounts = s.accounts := rfl
@[simp] theorem withdraw_plans : (withdraw q s).plans = s.plans := rfl
@[simp] theorem withdraw_windows : (withdraw q s).windows = s.windows := rfl
@[simp] theorem withdraw_defaultRoute : (withdraw q s).defaultRoute = s.defaultRoute := rfl
@[simp] theorem withdraw_lanes : (withdraw q s).lanes = s.lanes := rfl
@[simp] theorem withdraw_lines : (withdraw q s).lines = s.lines := rfl
@[simp] theorem withdraw_records : (withdraw q s).records = s.records := rfl
@[simp] theorem withdraw_latch : (withdraw q s).latch = s.latch := rfl
@[simp] theorem withdraw_offRecord : (withdraw q s).offRecord = s.offRecord := rfl
@[simp] theorem withdraw_mode : (withdraw q s).mode = s.mode := rfl
@[simp] theorem withdraw_startUp : (withdraw q s).startUp = s.startUp := rfl
@[simp] theorem withdraw_power : (withdraw q s).power = s.power := rfl
@[simp] theorem withdraw_pending : (withdraw q s).pending = s.pending := rfl
end withdraw

section clearAwait
variable (s : State) (n : Nat)
@[simp] theorem clearAwait_link : (clearAwait n s).link = s.link := rfl
@[simp] theorem clearAwait_panel : (clearAwait n s).panel = s.panel := rfl
@[simp] theorem clearAwait_auth : (clearAwait n s).auth = s.auth := rfl
@[simp] theorem clearAwait_asm : (clearAwait n s).asm = s.asm := rfl
@[simp] theorem clearAwait_keys : (clearAwait n s).keys = s.keys := rfl
@[simp] theorem clearAwait_cipher : (clearAwait n s).cipher = s.cipher := rfl
@[simp] theorem clearAwait_accounts : (clearAwait n s).accounts = s.accounts := rfl
@[simp] theorem clearAwait_plans : (clearAwait n s).plans = s.plans := rfl
@[simp] theorem clearAwait_windows : (clearAwait n s).windows = s.windows := rfl
@[simp] theorem clearAwait_defaultRoute : (clearAwait n s).defaultRoute = s.defaultRoute := rfl
@[simp] theorem clearAwait_records : (clearAwait n s).records = s.records := rfl
@[simp] theorem clearAwait_latch : (clearAwait n s).latch = s.latch := rfl
@[simp] theorem clearAwait_offRecord : (clearAwait n s).offRecord = s.offRecord := rfl
@[simp] theorem clearAwait_mode : (clearAwait n s).mode = s.mode := rfl
@[simp] theorem clearAwait_startUp : (clearAwait n s).startUp = s.startUp := rfl
@[simp] theorem clearAwait_power : (clearAwait n s).power = s.power := rfl
@[simp] theorem clearAwait_pending : (clearAwait n s).pending = s.pending := rfl
end clearAwait

section leaveWaiting
variable (s : State) (n : Nat)
@[simp] theorem leaveWaiting_link : (leaveWaiting n s).link = s.link := rfl
@[simp] theorem leaveWaiting_panel : (leaveWaiting n s).panel = s.panel := rfl
@[simp] theorem leaveWaiting_auth : (leaveWaiting n s).auth = s.auth := rfl
@[simp] theorem leaveWaiting_asm : (leaveWaiting n s).asm = s.asm := rfl
@[simp] theorem leaveWaiting_keys : (leaveWaiting n s).keys = s.keys := rfl
@[simp] theorem leaveWaiting_cipher : (leaveWaiting n s).cipher = s.cipher := rfl
@[simp] theorem leaveWaiting_accounts : (leaveWaiting n s).accounts = s.accounts := rfl
@[simp] theorem leaveWaiting_plans : (leaveWaiting n s).plans = s.plans := rfl
@[simp] theorem leaveWaiting_windows : (leaveWaiting n s).windows = s.windows := rfl
@[simp] theorem leaveWaiting_defaultRoute : (leaveWaiting n s).defaultRoute = s.defaultRoute := rfl
@[simp] theorem leaveWaiting_lanes : (leaveWaiting n s).lanes = s.lanes := rfl
@[simp] theorem leaveWaiting_lines : (leaveWaiting n s).lines = s.lines := rfl
@[simp] theorem leaveWaiting_latch : (leaveWaiting n s).latch = s.latch := rfl
@[simp] theorem leaveWaiting_offRecord : (leaveWaiting n s).offRecord = s.offRecord := rfl
@[simp] theorem leaveWaiting_mode : (leaveWaiting n s).mode = s.mode := rfl
@[simp] theorem leaveWaiting_startUp : (leaveWaiting n s).startUp = s.startUp := rfl
@[simp] theorem leaveWaiting_power : (leaveWaiting n s).power = s.power := rfl
@[simp] theorem leaveWaiting_pending : (leaveWaiting n s).pending = s.pending := rfl
end leaveWaiting

section releaseVersion
variable (s : State) (lane n v : Nat)
@[simp] theorem releaseVersion_link : (releaseVersion lane n v s).link = s.link := rfl
@[simp] theorem releaseVersion_panel : (releaseVersion lane n v s).panel = s.panel := rfl
@[simp] theorem releaseVersion_auth : (releaseVersion lane n v s).auth = s.auth := rfl
@[simp] theorem releaseVersion_asm : (releaseVersion lane n v s).asm = s.asm := rfl
@[simp] theorem releaseVersion_keys : (releaseVersion lane n v s).keys = s.keys := rfl
@[simp] theorem releaseVersion_cipher : (releaseVersion lane n v s).cipher = s.cipher := rfl
@[simp] theorem releaseVersion_accounts : (releaseVersion lane n v s).accounts = s.accounts := rfl
@[simp] theorem releaseVersion_windows : (releaseVersion lane n v s).windows = s.windows := rfl
@[simp] theorem releaseVersion_defaultRoute : (releaseVersion lane n v s).defaultRoute = s.defaultRoute := rfl
@[simp] theorem releaseVersion_lanes : (releaseVersion lane n v s).lanes = s.lanes := rfl
@[simp] theorem releaseVersion_lines : (releaseVersion lane n v s).lines = s.lines := rfl
@[simp] theorem releaseVersion_records : (releaseVersion lane n v s).records = s.records := rfl
@[simp] theorem releaseVersion_latch : (releaseVersion lane n v s).latch = s.latch := rfl
@[simp] theorem releaseVersion_offRecord : (releaseVersion lane n v s).offRecord = s.offRecord := rfl
@[simp] theorem releaseVersion_mode : (releaseVersion lane n v s).mode = s.mode := rfl
@[simp] theorem releaseVersion_startUp : (releaseVersion lane n v s).startUp = s.startUp := rfl
@[simp] theorem releaseVersion_power : (releaseVersion lane n v s).power = s.power := rfl
@[simp] theorem releaseVersion_pending : (releaseVersion lane n v s).pending = s.pending := rfl
end releaseVersion

section releaseLane
variable (s : State) (n : Nat)
@[simp] theorem releaseLane_link : (releaseLane n s).link = s.link := rfl
@[simp] theorem releaseLane_panel : (releaseLane n s).panel = s.panel := rfl
@[simp] theorem releaseLane_auth : (releaseLane n s).auth = s.auth := rfl
@[simp] theorem releaseLane_asm : (releaseLane n s).asm = s.asm := rfl
@[simp] theorem releaseLane_cipher : (releaseLane n s).cipher = s.cipher := rfl
@[simp] theorem releaseLane_accounts : (releaseLane n s).accounts = s.accounts := rfl
@[simp] theorem releaseLane_plans : (releaseLane n s).plans = s.plans := rfl
@[simp] theorem releaseLane_windows : (releaseLane n s).windows = s.windows := rfl
@[simp] theorem releaseLane_defaultRoute : (releaseLane n s).defaultRoute = s.defaultRoute := rfl
@[simp] theorem releaseLane_lanes : (releaseLane n s).lanes = s.lanes := rfl
@[simp] theorem releaseLane_lines : (releaseLane n s).lines = s.lines := rfl
@[simp] theorem releaseLane_records : (releaseLane n s).records = s.records := rfl
@[simp] theorem releaseLane_latch : (releaseLane n s).latch = s.latch := rfl
@[simp] theorem releaseLane_offRecord : (releaseLane n s).offRecord = s.offRecord := rfl
@[simp] theorem releaseLane_mode : (releaseLane n s).mode = s.mode := rfl
@[simp] theorem releaseLane_startUp : (releaseLane n s).startUp = s.startUp := rfl
@[simp] theorem releaseLane_power : (releaseLane n s).power = s.power := rfl
@[simp] theorem releaseLane_pending : (releaseLane n s).pending = s.pending := rfl
end releaseLane

end Sys2Proof.Machine
end

