-- ==== Sys2Proof/Laws/Tables.lean ====
section
/-! SUPPORT. Reading a numbered place after writing one. -/

namespace Sys2Proof

theorem look_put {n : Nat} {α : Type} (t : Table n α) (i j : Nat) (x d : α) :
    look (put t i x) d j = if i = j ∧ i < n then x else look t d j := by
  unfold look put
  by_cases hj : j < n
  · by_cases hij : i = j
    · subst hij
      simp [hj]
    · simp [Vector.getElem?_eq_getElem hj, hij]
  · have h : t[j]? = none := Vector.getElem?_eq_none (by omega)
    have h' : (t.setIfInBounds i x)[j]? = none := Vector.getElem?_eq_none (by omega)
    have : ¬ (i = j ∧ i < n) := by omega
    simp [h, h', this]

@[simp] theorem look_put_self {n : Nat} {α : Type} (t : Table n α) (i : Nat) (x d : α) (h : i < n) :
    look (put t i x) d i = x := by simp [look_put, h]

theorem look_put_ne {n : Nat} {α : Type} (t : Table n α) (i j : Nat) (x d : α) (h : i ≠ j) :
    look (put t i x) d j = look t d j := by simp [look_put, h]

/-- A place of a mapped table. -/
theorem look_map {n : Nat} {α β : Type} (t : Table n α) (f : α → β) (d : α) (i : Nat) :
    look (t.map f) (f d) i = f (look t d i) := by
  unfold look
  by_cases h : i < n
  · simp [Vector.getElem?_eq_getElem h]
  · simp [Vector.getElem?_eq_none (show n ≤ i by omega)]

/-- A place of the table in which every place is alike. -/
theorem look_replicate {n : Nat} {α : Type} (x : α) (i : Nat) : look (Vector.replicate n x : Table n α) x i = x := by
  unfold look
  by_cases h : i < n
  · simp [Vector.getElem?_eq_getElem h]
  · simp [Vector.getElem?_eq_none (show n ≤ i by omega)]

/-- What holds of every place of a table, and of what stands for a missing place, holds of a place that is read. -/
theorem look_of_forall {n : Nat} {α : Type} {P : α → Prop} (t : Table n α) (d : α) (i : Nat) (hd : P d)
    (h : ∀ x ∈ t.toList, P x) : P (look t d i) := by
  unfold look
  by_cases hi : i < n
  · rw [Vector.getElem?_eq_getElem hi]
    exact h _ (by simp)
  · rw [Vector.getElem?_eq_none (by omega)]
    exact hd

/-- What holds of every place of a table and of a value holds of every place once the value is put. -/
theorem forall_put {n : Nat} {α : Type} {P : α → Prop} (t : Table n α) (i : Nat) (x : α) (hx : P x)
    (h : ∀ y ∈ t.toList, P y) : ∀ y ∈ (put t i x).toList, P y := by
  intro y hy
  rw [put, Vector.mem_toList_iff, Vector.mem_iff_getElem] at hy
  obtain ⟨j, hj, rfl⟩ := hy
  rw [Vector.getElem_setIfInBounds]
  split
  · exact hx
  · exact h _ (by simp)

end Sys2Proof

namespace Sys2Proof.Machine

variable (s : State) (n m : Nat)

theorem slotAt_setSlot (x : Slot) :
    (s.setSlot n x).slotAt m = if n = m ∧ n < 64 then x else s.slotAt m := look_put ..
theorem accountAt_setAccount (a : Option Account) :
    (s.setAccount n a).accountAt m = if n = m ∧ n < 64 then a else s.accountAt m := look_put ..
theorem planAt_setPlan (p : Plan) :
    (s.setPlan n p).planAt m = if n = m ∧ n < 16 then p else s.planAt m := look_put ..
theorem windowAt_setWindow (w : Option Window) :
    (s.setWindow n w).windowAt m = if n = m ∧ n < 16 then w else s.windowAt m := look_put ..
theorem laneAt_setLane (l : Lane) :
    (s.setLane n l).laneAt m = if n = m ∧ n < 8 then l else s.laneAt m := look_put ..
theorem lineAt_setLine (l : BenchLine) :
    (s.setLine n l).lineAt m = if n = m ∧ n < 8 then l else s.lineAt m := look_put ..
theorem laneAt_modLane (f : Lane → Lane) :
    (s.modLane n f).laneAt m = if n = m ∧ n < 8 then f (s.laneAt n) else s.laneAt m := look_put ..
theorem lineAt_modLine (f : BenchLine → BenchLine) :
    (s.modLine n f).lineAt m = if n = m ∧ n < 8 then f (s.lineAt n) else s.lineAt m := look_put ..

@[simp] theorem slotAt_setAccount (a : Option Account) : (s.setAccount n a).slotAt m = s.slotAt m := rfl
@[simp] theorem accountAt_setSlot (x : Slot) : (s.setSlot n x).accountAt m = s.accountAt m := rfl
@[simp] theorem laneAt_modLine (f : BenchLine → BenchLine) : (s.modLine n f).laneAt m = s.laneAt m := rfl
@[simp] theorem lineAt_modLane (f : Lane → Lane) : (s.modLane n f).lineAt m = s.lineAt m := rfl

@[simp] theorem laneAt_setLine (l : BenchLine) : (s.setLine n l).laneAt m = s.laneAt m := rfl
@[simp] theorem lineAt_setLane (l : Lane) : (s.setLane n l).lineAt m = s.lineAt m := rfl
@[simp] theorem slotAt_setLine (l : BenchLine) : (s.setLine n l).slotAt m = s.slotAt m := rfl
@[simp] theorem slotAt_setLane (l : Lane) : (s.setLane n l).slotAt m = s.slotAt m := rfl
@[simp] theorem ctxAt_setLine (l : BenchLine) : (s.setLine n l).ctxAt m = s.ctxAt m := rfl
@[simp] theorem ctxAt_modLine (f : BenchLine → BenchLine) : (s.modLine n f).ctxAt m = s.ctxAt m := rfl
@[simp] theorem ctxAt_setSlot (x : Slot) : (s.setSlot n x).ctxAt m = s.ctxAt m := rfl
@[simp] theorem lineAt_modCtx (f : RunContext → RunContext) : (s.modCtx n f).lineAt m = s.lineAt m := rfl
@[simp] theorem lineAt_setTimer (t : Option Nat) : (s.setTimer n t).lineAt m = s.lineAt m := rfl
theorem ctxAt_setTimer (t : Option Nat) : (s.setTimer n t).ctxAt m = s.ctxAt m := by
  unfold State.ctxAt State.setTimer
  rw [laneAt_modLane]
  split
  · rename_i h; rw [h.1]
  · rfl
theorem ctxAt_modCtx (f : RunContext → RunContext) :
    (s.modCtx n f).ctxAt m = if n = m ∧ n < 8 then (s.ctxAt n).map f else s.ctxAt m := by
  unfold State.ctxAt State.modCtx
  rw [laneAt_modLane]
  split <;> rfl

/-- R4, R68: an emptied slot is EMPTY and has no account. -/
theorem emptySlot_slotAt (h : n < 64) : (s.emptySlot n).slotAt n = none := by
  simp [State.emptySlot, slotAt_setSlot, h]
theorem emptySlot_accountAt (h : n < 64) : (s.emptySlot n).accountAt n = none := by
  simp [State.emptySlot, accountAt_setAccount, h]
theorem emptySlot_slotAt_ne (h : n ≠ m) : (s.emptySlot n).slotAt m = s.slotAt m := by
  simp [State.emptySlot, slotAt_setSlot, h]
theorem emptySlot_accountAt_ne (h : n ≠ m) : (s.emptySlot n).accountAt m = s.accountAt m := by
  simp [State.emptySlot, accountAt_setAccount, h]

end Sys2Proof.Machine
end

