-- ==== Sys2Proof/Laws/RunFrame.lean ====
section
/-! SUPPORT. What the lanes' work leaves as it is: the panel, the custodians, the assembly, the windows, the tamper
latch, the mode, power, and the queue of commands. One lemma for each operation. -/

namespace Sys2Proof.Machine

/-- The part of the state that no run touches. -/
def State.outside (s : State) :=
  (s.panel, s.auth, s.asm, s.windows, s.defaultRoute, s.latch, s.offRecord, s.mode, s.startUp, s.power, s.pending)

section
variable (s : State) (n : Nat)

@[simp] theorem setSlot_outside (x : Slot) : (s.setSlot n x).outside = s.outside := rfl
@[simp] theorem setAccount_outside (x : Option Account) : (s.setAccount n x).outside = s.outside := rfl
@[simp] theorem setPlan_outside (p : Plan) : (s.setPlan n p).outside = s.outside := rfl
@[simp] theorem setLane_outside (l : Lane) : (s.setLane n l).outside = s.outside := rfl
@[simp] theorem setLine_outside (l : BenchLine) : (s.setLine n l).outside = s.outside := rfl
@[simp] theorem modLane_outside (f : Lane → Lane) : (s.modLane n f).outside = s.outside := rfl
@[simp] theorem modLine_outside (f : BenchLine → BenchLine) : (s.modLine n f).outside = s.outside := rfl
@[simp] theorem modCtx_outside (f : RunContext → RunContext) : (s.modCtx n f).outside = s.outside := rfl
@[simp] theorem setStage_outside (g : Stage) : (s.setStage n g).outside = s.outside := rfl
@[simp] theorem setTimer_outside (t : Option Nat) : (s.setTimer n t).outside = s.outside := rfl
@[simp] theorem modOpen_outside (f : Record → Record) : (s.modOpen n f).outside = s.outside := rfl
@[simp] theorem pump_outside : (pump s).outside = s.outside := rfl
@[simp] theorem setReply_outside (l : Line) : (setReply l s).outside = s.outside := rfl
@[simp] theorem withdraw_outside : (withdraw n s).outside = s.outside := rfl
@[simp] theorem clearAwait_outside : (clearAwait n s).outside = s.outside := rfl
@[simp] theorem leaveWaiting_outside : (leaveWaiting n s).outside = s.outside := rfl
@[simp] theorem releaseLane_outside : (releaseLane n s).outside = s.outside := rfl
@[simp] theorem releaseVersion_outside (p v : Nat) : (releaseVersion n p v s).outside = s.outside := rfl
@[simp] theorem addRecord_outside (r : Record) : (addRecord r s).outside = s.outside := rfl
@[simp] theorem openRun_outside (q : RunRequest) : (openRun n q s).outside = s.outside := rfl
@[simp] theorem stopRun_outside : (stopRun n s).outside = s.outside := by simp [stopRun]
@[simp] theorem markServed_outside (c : RunContext) : (markServed n c s).outside = s.outside := rfl
@[simp] theorem closeRecord_outside (o : Outcome) (k : Option Nat) (v : List Tki) :
    (closeRecord n o k v s).outside = s.outside := rfl

@[simp] theorem raiseNotice_outside (l : Line) : (raiseNotice l s).outside = s.outside := by
  unfold raiseNotice; split
  · rfl
  · split <;> rfl

@[simp] theorem syncOpen_outside : (syncOpen n s).outside = s.outside := by
  unfold syncOpen; split <;> rfl

@[simp] theorem modDelivery_outside (f : Delivery → Delivery) : (s.modDelivery n f).outside = s.outside := by
  simp [State.modDelivery]

@[simp] theorem deliveryStart_outside (k : Nat) : (deliveryStart n k s).outside = s.outside := by
  unfold deliveryStart; split
  · split <;> rfl
  · rfl

@[simp] theorem consume_outside : (consume n s).outside = s.outside := by
  unfold consume; split <;> rfl

@[simp] theorem startDelivery_outside : (startDelivery n s).outside = s.outside := by
  unfold startDelivery; split
  · rfl
  · dsimp only; split <;> simp

@[simp] theorem transmitStart_outside (f : OutFrame) : (transmitStart n f s).outside = s.outside := by
  unfold transmitStart
  dsimp only
  split
  · simp
  · split
    · simp
    · split <;> simp

@[simp] theorem handFrame_outside (k : RequestKind) (b : Text) : (handFrame n k b s).outside = s.outside := by
  unfold handFrame; split
  · rfl
  · dsimp only; split <;> simp

theorem serveRequester_outside (r : CipherRequest) : (serveRequester n r s).1.outside = s.outside := by
  unfold serveRequester; dsimp only; split <;> rfl

@[simp] theorem post_outside (r : CipherRequest) : (post n r s).1.outside = s.outside := by
  unfold post; split
  · exact serveRequester_outside ..
  · rfl

@[simp] theorem postLoad_outside (op : LaneOp) : (postLoad n op s).1.outside = s.outside := by
  unfold postLoad; split
  · rfl
  · split
    · split <;> rename_i h <;> (have := congrArg (·.1.outside) h; simpa using this.symm)
    · rfl

@[simp] theorem fillHeader_outside : (fillHeader n s).outside = s.outside := by
  unfold fillHeader; split <;> rfl

@[simp] theorem takeOutput_outside (r : LaneRequest) (i : CipherInput) : (takeOutput r n i s).1.outside = s.outside := by
  unfold takeOutput; split
  · rfl
  · split
    · rfl
    · split
      · rfl
      · split <;> simp

@[simp] theorem beginAwait_outside (st : Step) : (beginAwait n st s).1.outside = s.outside := by
  unfold beginAwait; split <;> rfl

end

/-- R87: a version bind that is granted. -/
theorem bindVersion_ok {n p : Nat} {b : Bool} {s t : State} {v : Version} (h : bindVersion n p b s = .ok v t) :
    (s.planAt p).installed = some v ∧
      t = s.setPlan p { s.planAt p with users := insertAsc n (s.planAt p).users } := by
  unfold bindVersion at h
  dsimp only at h
  split at h
  · cases h
  · split at h
    · cases h
    · cases h; exact ⟨by assumption, rfl⟩

/-- R11: a bind request that is granted changes the slots alone. -/
theorem bindSlots_ok {n : Nat} {l : List (Nat × Step)} {s t : State} (h : bindSlots n l s = .ok t) :
    ∃ slots, bindSteps n l s.keys.slots = .ok slots ∧ t = { s with keys := { s.keys with slots := slots } } := by
  unfold bindSlots at h
  split at h
  · cases h
  · cases h; exact ⟨_, by assumption, rfl⟩

theorem reserveOne_outside (n : Nat) (a : Account) (s : State) : (reserveOne n a s).2.outside = s.outside := by
  unfold reserveOne
  dsimp only
  split <;> split <;> simp

theorem reserveAll_outside (l : List (Nat × Nat)) (s : State) : (reserveAll l s).2.outside = s.outside := by
  induction l generalizing s with
  | nil => rfl
  | cons w l ih =>
    unfold reserveAll
    split
    · exact ih s
    · dsimp only; rw [ih]; exact reserveOne_outside ..

/-- R60: a reservation request that is granted. -/
theorem reserveIssue_ok {l : List (Nat × Nat)} {s t : State} {ts : List (Nat × Tki)}
    (h : reserveIssue l s = .ok (ts, t)) : reserveTest s l = none ∧ reserveAll l s = (ts, t) := by
  unfold reserveIssue at h
  split at h
  · cases h
  · injection h with h; exact ⟨by assumption, h⟩

theorem returnNumber_outside (n m : Nat) (s : State) : (returnNumber n m s).2.outside = s.outside := by
  unfold returnNumber; split
  · rfl
  · split <;> rfl

theorem returnAll_outside (l : List Delivery) (s : State) : (returnAll l s).2.outside = s.outside := by
  induction l generalizing s with
  | nil => rfl
  | cons d l ih =>
    unfold returnAll
    split
    · dsimp only; rw [ih]; exact returnNumber_outside ..
    · exact ih s

theorem bindVersion_outside {n p : Nat} {b : Bool} {s t : State} {v : Version} (h : bindVersion n p b s = .ok v t) :
    t.outside = s.outside := by rw [(bindVersion_ok h).2]; rfl

theorem bindSlots_outside {n : Nat} {l : List (Nat × Step)} {s t : State} (h : bindSlots n l s = .ok t) :
    t.outside = s.outside := by obtain ⟨_, _, rfl⟩ := bindSlots_ok h; rfl

theorem reserveIssue_outside {l : List (Nat × Nat)} {s t : State} {ts : List (Nat × Tki)}
    (h : reserveIssue l s = .ok (ts, t)) : t.outside = s.outside := by
  have := reserveAll_outside l s
  rw [(reserveIssue_ok h).2] at this
  exact this

/-- R112, R121: what the two requests leave, whatever they answer. -/
theorem bindKeys_outside (n : Nat) (l : List Step) (old : List Delivery) (s : State) :
    (bindKeys n l old s).1.outside = s.outside := by
  unfold bindKeys
  split
  · rfl
  · rename_i hb
    have h1 := bindSlots_outside hb
    dsimp only
    split
    · simpa using h1
    · rename_i hr
      simpa using (reserveIssue_outside hr).trans (by simpa using h1)

theorem routeStep_outside (n : Nat) (c : RunContext) (s : State) : (routeStep n c s).1.outside = s.outside := by
  unfold routeStep
  split
  · rfl
  · split
    · rfl
    · rfl
    · rename_i hv
      have h1 := bindVersion_outside hv
      dsimp only
      split <;>
      · rename_i hb
        have h2 := congrArg (·.1.outside) hb
        rw [bindKeys_outside] at h2
        simpa using h2.symm.trans (by simpa using h1)

theorem beginStep_outside (n : Nat) (s : State) : (beginStep n s).1.outside = s.outside := by
  unfold beginStep
  dsimp only
  split
  · rfl
  · split
    · rfl
    · split <;> simp [routeStep_outside]

theorem nextStep_outside (n : Nat) (s : State) : (nextStep n s).1.outside = s.outside := by
  unfold nextStep
  split
  · rfl
  · split
    · rfl
    · split <;> rfl

theorem proceed_outside (k n : Nat) (r : State × StepEnd) : (proceed k n r).1.outside = r.1.outside := by
  induction k generalizing r with
  | zero => rfl
  | succ k ih =>
    obtain ⟨s, e⟩ := r
    cases e with
    | wait => rfl
    | fin o a => rfl
    | routed =>
      unfold proceed
      split
      · rfl
      · rw [ih]; exact beginStep_outside ..
    | done =>
      have hn := nextStep_outside n (clearAwait n s)
      unfold proceed
      split
      · rename_i h; rw [h] at hn; simpa using hn
      · rename_i h
        rw [h] at hn
        split
        · simpa using hn
        · rw [ih, beginStep_outside]; simpa using hn

@[simp] theorem refuseRecord_outside (n : Nat) (s : State) : (refuseRecord n s).outside = s.outside := by
  unfold refuseRecord
  dsimp only
  split
  · rfl
  · rw [raiseNotice_outside]; rfl

@[simp] theorem holdLane_outside (n : Nat) (q : RunRequest) (s : State) : (holdLane n q s).outside = s.outside := by
  unfold holdLane
  rw [refuseRecord_outside]
  split <;> simp

theorem startRun_outside (n : Nat) (q : RunRequest) (s : State) : (startRun n q s).1.outside = s.outside := by
  unfold startRun
  dsimp only
  split
  · simp
  · simp
  · rename_i hv
    have h1 := bindVersion_outside hv
    rw [openRun_outside] at h1
    split <;>
    · rename_i hb
      have h2 := congrArg (·.1.outside) hb
      rw [bindKeys_outside] at h2
      simpa [proceed_outside, beginStep_outside] using h2.symm.trans (by simpa using h1)

theorem runStart_outside (n : Nat) (s : State) : (runStart n s).1.outside = s.outside := by
  unfold runStart
  split
  · rfl
  · split
    · exact startRun_outside ..
    · simp

theorem releaseVersions_outside (n : Nat) (c : RunContext) (s : State) :
    (releaseVersions n c s).outside = s.outside := by
  unfold releaseVersions
  dsimp only
  split <;> split <;> rfl

theorem runEnd_outside (n : Nat) (stop : RunStop) (s : State) : (runEnd n stop s).outside = s.outside := by
  unfold runEnd
  split
  · rfl
  · simp [releaseVersions_outside, returnAll_outside]

theorem settleRun_outside (k n : Nat) (r : State × Option RunStop) : (settleRun k n r).outside = r.1.outside := by
  induction k generalizing r with
  | zero => rfl
  | succ k ih =>
    obtain ⟨s, o⟩ := r
    cases o with
    | none => rfl
    | some stop => unfold settleRun; rw [ih, runStart_outside, runEnd_outside]

/-- No run touches what stands outside it. -/
@[simp] theorem goOn_outside (n : Nat) (r : State × StepEnd) : (goOn n r).outside = r.1.outside := by
  unfold goOn; rw [settleRun_outside, proceed_outside]
@[simp] theorem endRun_outside (n : Nat) (o : Outcome) (s : State) : (endRun n o s).outside = s.outside :=
  settleRun_outside ..
@[simp] theorem startAt_outside (n : Nat) (s : State) : (startAt n s).outside = s.outside := by
  unfold startAt; rw [settleRun_outside, runStart_outside]

/-! ## What an operation puts out (R17) -/

@[simp] theorem CipherInput.derive_bytes_length (alg : AlgPair) (root tki : Text) :
    (CipherInput.derive alg root tki).bytes.length = alg.keyLen := Config.cipher.derive_length alg root tki

@[simp] theorem CipherInput.wrap_bytes_length (alg : AlgPair) (transport header key : Text) :
    (CipherInput.wrap alg transport header key).bytes.length = wrappedLen key.length alg + 8 := by
  simp only [CipherInput.bytes, List.length_append, Cipher.wrap_length, Cipher.auth_length]

end Sys2Proof.Machine
end

