-- ==== Sys2Proof/Laws/Link.lean ====
section
/-! SUPPORT. What the Link Port's and the panel's shared operations come to, each said once. -/

namespace Sys2Proof.Machine

variable {s : State} {tag : Text} {h : State → Answer × State}

@[simp] theorem heard_mode : (heard s).mode = s.mode := rfl
@[simp] theorem heard_auth : (heard s).auth = s.auth := rfl

/-- R172, R178: a request line that ends while the port is ready is handled at once. -/
theorem lineEnds_ready (hr : LinkReady s) (i : Instr) : lineEnds (.request i) s = serveRuns i (heard s) := by
  obtain ⟨h1, h2⟩ := hr
  simp [lineEnds, lineReady, h1, h2, handleLine, heard]

/-- R178: a line that the port refuses itself is answered at once while the port is ready. -/
theorem lineEnds_refused (hr : LinkReady s) {w : RefusedLine} (h1 : w ≠ .empty) (h2 : w ≠ .overrun) :
    lineEnds (.refused w) s = handleLine (.refused w) (heard s) := by
  obtain ⟨h3, h4⟩ := hr
  simp [lineEnds, lineReady, h1, h2, h3, h4, heard]

/-- Table 10-1: an OPERATOR-level request in NORMAL mode. -/
theorem request_operator (hm : s.mode = .normal) (b : Bool) :
    request .operator tag b h s = setReply ((h s).1.line tag) (h s).2 := by
  simp [request, admitted, hm]

/-- Table 10-1, R38: a CUSTODIAN-level request in DUAL. -/
theorem request_custodian (hm : s.mode = .normal) (hd : s.auth.state = .dual) (b : Bool) :
    request .custodian tag b h s = setReply ((h (restartDual s)).1.line tag) (h (restartDual s)).2 := by
  simp [request, admitted, hm, hd]

/-- R39, R176: a CUSTODIAN-level request outside DUAL. -/
theorem request_unadmitted (hm : s.mode = .normal) (hd : s.auth.state ≠ .dual) (b : Bool) :
    request .custodian tag b h s = setReply ((Answer.err .notAuthorised []).line tag) s := by
  simp [request, admitted, hm, hd]

/-- R175, step 4: FAILED mode. -/
theorem request_failed (hm : s.mode = .failed) (lvl : Level) :
    request lvl tag false h s = setReply ((Answer.err .failed []).line tag) s := by
  simp [request, hm]

/-- R38: the restart touches the timer alone. -/
theorem restartDual_eq (s : State) :
    restartDual s = { s with auth := { s.auth with
      dualTimer := if s.auth.state = .dual then some s.auth.dualWindow else s.auth.dualTimer } } := by
  unfold restartDual; split <;> rfl

@[simp] theorem restartDual_link : (restartDual s).link = s.link := by rw [restartDual_eq]
@[simp] theorem restartDual_panel : (restartDual s).panel = s.panel := by rw [restartDual_eq]
@[simp] theorem restartDual_asm : (restartDual s).asm = s.asm := by rw [restartDual_eq]
@[simp] theorem restartDual_keys : (restartDual s).keys = s.keys := by rw [restartDual_eq]
@[simp] theorem restartDual_cipher : (restartDual s).cipher = s.cipher := by rw [restartDual_eq]
@[simp] theorem restartDual_accounts : (restartDual s).accounts = s.accounts := by rw [restartDual_eq]
@[simp] theorem restartDual_plans : (restartDual s).plans = s.plans := by rw [restartDual_eq]
@[simp] theorem restartDual_windows : (restartDual s).windows = s.windows := by rw [restartDual_eq]
@[simp] theorem restartDual_defaultRoute : (restartDual s).defaultRoute = s.defaultRoute := by rw [restartDual_eq]
@[simp] theorem restartDual_lanes : (restartDual s).lanes = s.lanes := by rw [restartDual_eq]
@[simp] theorem restartDual_lines : (restartDual s).lines = s.lines := by rw [restartDual_eq]
@[simp] theorem restartDual_records : (restartDual s).records = s.records := by rw [restartDual_eq]
@[simp] theorem restartDual_latch : (restartDual s).latch = s.latch := by rw [restartDual_eq]
@[simp] theorem restartDual_mode : (restartDual s).mode = s.mode := by rw [restartDual_eq]
@[simp] theorem restartDual_startUp : (restartDual s).startUp = s.startUp := by rw [restartDual_eq]
@[simp] theorem restartDual_power : (restartDual s).power = s.power := by rw [restartDual_eq]
@[simp] theorem restartDual_pending : (restartDual s).pending = s.pending := by rw [restartDual_eq]
@[simp] theorem restartDual_roster : (restartDual s).auth.roster = s.auth.roster := by rw [restartDual_eq]
@[simp] theorem restartDual_sessions : (restartDual s).auth.sessions = s.auth.sessions := by rw [restartDual_eq]
@[simp] theorem restartDual_state : (restartDual s).auth.state = s.auth.state := by rw [restartDual_eq]
@[simp] theorem restartDual_dualWindow : (restartDual s).auth.dualWindow = s.auth.dualWindow := by rw [restartDual_eq]
@[simp] theorem restartDual_slotAt (n : Nat) : (restartDual s).slotAt n = s.slotAt n := by simp [State.slotAt]
@[simp] theorem restartDual_accountAt (n : Nat) : (restartDual s).accountAt n = s.accountAt n := by
  simp [State.accountAt]
@[simp] theorem restartDual_planAt (n : Nat) : (restartDual s).planAt n = s.planAt n := by simp [State.planAt]
@[simp] theorem restartDual_windowAt (n : Nat) : (restartDual s).windowAt n = s.windowAt n := by simp [State.windowAt]
@[simp] theorem restartDual_laneAt (n : Nat) : (restartDual s).laneAt n = s.laneAt n := by simp [State.laneAt]
@[simp] theorem restartDual_lineAt (n : Nat) : (restartDual s).lineAt n = s.lineAt n := by simp [State.lineAt]
@[simp] theorem restartDual_custodianAt (n : Nat) : (restartDual s).custodianAt n = s.custodianAt n := by
  simp [State.custodianAt]

@[simp] theorem heard_slotAt (n : Nat) : (heard s).slotAt n = s.slotAt n := rfl
@[simp] theorem heard_accountAt (n : Nat) : (heard s).accountAt n = s.accountAt n := rfl
@[simp] theorem heard_planAt (n : Nat) : (heard s).planAt n = s.planAt n := rfl
@[simp] theorem heard_windowAt (n : Nat) : (heard s).windowAt n = s.windowAt n := rfl
@[simp] theorem heard_laneAt (n : Nat) : (heard s).laneAt n = s.laneAt n := rfl
@[simp] theorem heard_lineAt (n : Nat) : (heard s).lineAt n = s.lineAt n := rfl
@[simp] theorem heard_custodianAt (n : Nat) : (heard s).custodianAt n = s.custodianAt n := rfl
@[simp] theorem heard_asm : (heard s).asm = s.asm := rfl
@[simp] theorem heard_keys : (heard s).keys = s.keys := rfl
@[simp] theorem heard_records : (heard s).records = s.records := rfl
@[simp] theorem heard_latch : (heard s).latch = s.latch := rfl

/-- R31, R32: a panel line that ends while the panel is ready is handled at once. -/
theorem panelLineEnds_ready (hp : PanelReady s) (l : PanelLine) :
    panelLineEnds l s = handlePanel l (panelHeard s) := by
  obtain ⟨h1, h2, h3, h4, h5⟩ := hp
  simp [panelLineEnds, panelEnds, h1, h2, h3, h4, h5, panelHeard]

/-- R31: a command that leaves the panel's queue alone puts its reply at the queue's tail. -/
theorem panelServe_quiet {f : State → PanelAnswer × State} (hq : (f s).2.panel = s.panel) (items : List Item)
    (hok : (f s).1 = .ok items) :
    panelServe f s = { restartDual (f s).2 with panel := { s.panel with
      out := s.panel.out ++ [{ isReply := true, line := .word "OK" :: items }] } } := by
  unfold panelServe
  rcases hf : f s with ⟨a, t⟩
  rw [hf] at hq hok
  subst hok
  simp at hq
  simp [PanelAnswer.line, hq]

/-- R31: a refused line. -/
theorem panelServe_err {f : State → PanelAnswer × State} {e : PanelErr} (hf : f s = (.err e, s)) :
    panelServe f s = { s with panel := { s.panel with
      out := s.panel.out ++ [{ isReply := true, line := [.word "ERR", .word e.word] }] } } := by
  unfold panelServe
  rw [hf]
  simp [PanelAnswer.line]

/-- Table 10-4: a request comes to its owner at its level, and STATUS alone is taken in FAILED mode. ENROL-CUSTODIAN comes at
the level of its group (R28). -/
theorem serveRuns_request {i : Instr} {lv : Level} (hi : requestOf i = some (lv, tag)) (s : State) :
    ∃ lv' b f, serveRuns i s = request lv' tag b f s ∧ (b = true → i = .status tag) ∧
      (lv' = lv ∨ ∃ n g l, i = .enrolCustodian tag n g l ∧ lv' = enrolLevel g s) := by
  cases i <;> simp only [requestOf, Option.some.injEq, Prod.mk.injEq, reduceCtorEq] at hi <;> obtain ⟨rfl, rfl⟩ := hi <;>
    simp only [serveRuns, serveKeys] <;>
    first
    | exact ⟨_, false, _, rfl, nofun, .inl rfl⟩
    | exact ⟨_, false, _, rfl, nofun, .inr ⟨_, _, _, rfl, rfl⟩⟩
    | exact ⟨_, true, _, rfl, fun _ => trivial, .inl rfl⟩

/-- R175: every request row is the ending of its line. -/
theorem exec_request {i : Instr} {lv : Level} (hi : requestOf i = some (lv, tag)) (s : State) :
    exec i s = requestLine i s := by
  cases i <;> first | rfl | cases hi

/-- A CUSTODIAN-level request in DUAL, from the line's end to the transmitter. `hi` says which owner serves it. -/
theorem requestLine_custodian {i : Instr} {b : Bool} (hr : CustodianReady s)
    (hi : serveRuns i (heard s) = request .custodian tag b h (heard s)) :
    requestLine i s = .next (pump (setReply ((h (heardDual s)).1.line tag) (h (heardDual s)).2)) := by
  obtain ⟨⟨h1, h2⟩, h3⟩ := hr
  rw [requestLine, lineEnds_ready h1, hi, request_custodian (s := heard s) h2 h3]
  rfl

/-- An OPERATOR-level request in NORMAL mode. -/
theorem requestLine_operator {i : Instr} {b : Bool} (hr : OperatorReady s)
    (hi : serveRuns i (heard s) = request .operator tag b h (heard s)) :
    requestLine i s = .next (pump (setReply ((h (heard s)).1.line tag) (h (heard s)).2)) := by
  obtain ⟨h1, h2⟩ := hr
  rw [requestLine, lineEnds_ready h1, hi, request_operator (s := heard s) h2]
  rfl

/-- A request whose level is the line's own (R92). -/
theorem requestLine_level {i : Instr} {b : Bool} {level : Level} (hr : LevelReady level s)
    (hi : serveRuns i (heard s) = request level tag b h (heard s)) :
    requestLine i s = .next (pump (setReply ((h (heardAt level s)).1.line tag) (h (heardAt level s)).2)) := by
  cases level with
  | operator => exact requestLine_operator hr.1 hi
  | custodian => exact requestLine_custodian ⟨hr.1, hr.2 rfl⟩ hi

/-- A CUSTODIAN-level request outside DUAL. -/
theorem requestLine_unadmitted {i : Instr} {b : Bool} (hr : OperatorReady s) (hd : s.auth.state ≠ .dual)
    (hi : serveRuns i (heard s) = request .custodian tag b h (heard s)) :
    requestLine i s = .next (refusedWith tag .notAuthorised (heard s)) := by
  obtain ⟨h1, h2⟩ := hr
  rw [requestLine, lineEnds_ready h1, hi, request_unadmitted (s := heard s) h2 hd]
  rfl

/-- A CUSTODIAN-level request in DUAL that its owner takes. -/
theorem custodian_ok {i : Instr} {t : State} {fields : List Item} (hr : CustodianReady s)
    (h : State → Answer × State) (hi : serveRuns i (heard s) = request .custodian tag false h (heard s))
    (ho : h (heardDual s) = (.ok fields, t)) : requestLine i s = .next (replied tag fields t) := by
  rw [requestLine_custodian hr hi, ho]; rfl

/-- A CUSTODIAN-level request in DUAL that its owner refuses. -/
theorem custodian_err {i : Instr} {c : ErrCode} (hr : CustodianReady s)
    (h : State → Answer × State) (hi : serveRuns i (heard s) = request .custodian tag false h (heard s))
    (ho : h (heardDual s) = (.err c [], heardDual s)) :
    requestLine i s = .next (refusedWith tag c (heardDual s)) := by
  rw [requestLine_custodian hr hi, ho]; rfl

/-- An OPERATOR-level request that its owner takes. -/
theorem operator_ok {i : Instr} {b : Bool} {t : State} {fields : List Item} (hr : OperatorReady s)
    (h : State → Answer × State) (hi : serveRuns i (heard s) = request .operator tag b h (heard s))
    (ho : h (heard s) = (.ok fields, t)) : requestLine i s = .next (replied tag fields t) := by
  rw [requestLine_operator hr hi, ho]; rfl

/-- An OPERATOR-level request that its owner refuses. -/
theorem operator_err {i : Instr} {c : ErrCode} (hr : OperatorReady s)
    (h : State → Answer × State) (hi : serveRuns i (heard s) = request .operator tag false h (heard s))
    (ho : h (heard s) = (.err c [], heard s)) : requestLine i s = .next (refusedWith tag c (heard s)) := by
  rw [requestLine_operator hr hi, ho]; rfl

/-- A window request that its owner takes. -/
theorem level_ok {i : Instr} {t : State} {fields : List Item} {level : Level} (hr : LevelReady level s)
    (h : State → Answer × State) (hi : serveRuns i (heard s) = request level tag false h (heard s))
    (ho : h (heardAt level s) = (.ok fields, t)) : requestLine i s = .next (replied tag fields t) := by
  rw [requestLine_level hr hi, ho]; rfl

/-- A window request that its owner refuses. -/
theorem level_err {i : Instr} {c : ErrCode} {level : Level} (hr : LevelReady level s)
    (h : State → Answer × State) (hi : serveRuns i (heard s) = request level tag false h (heard s))
    (ho : h (heardAt level s) = (.err c [], heardAt level s)) :
    requestLine i s = .next (refusedWith tag c (heardAt level s)) := by
  rw [requestLine_level hr hi, ho]; rfl

@[simp] theorem heardDual_slotAt (n : Nat) : (heardDual s).slotAt n = s.slotAt n := by simp [heardDual]
@[simp] theorem heardDual_accountAt (n : Nat) : (heardDual s).accountAt n = s.accountAt n := by simp [heardDual]
@[simp] theorem heardDual_planAt (n : Nat) : (heardDual s).planAt n = s.planAt n := by simp [heardDual]
@[simp] theorem heardDual_windowAt (n : Nat) : (heardDual s).windowAt n = s.windowAt n := by simp [heardDual]
@[simp] theorem heardDual_custodianAt (n : Nat) : (heardDual s).custodianAt n = s.custodianAt n := by
  simp [heardDual]
@[simp] theorem heardDual_keys : (heardDual s).keys = s.keys := by simp [heardDual]
@[simp] theorem heardDual_asm : (heardDual s).asm = s.asm := by simp [heardDual]
@[simp] theorem heardDual_latch : (heardDual s).latch = s.latch := by simp [heardDual]
@[simp] theorem heardDual_accounts : (heardDual s).accounts = s.accounts := by simp [heardDual]; rfl
@[simp] theorem heardDual_windows : (heardDual s).windows = s.windows := by simp [heardDual]; rfl
@[simp] theorem heardDual_cipher : (heardDual s).cipher = s.cipher := by simp [heardDual]; rfl
@[simp] theorem heardDual_sessions : (heardDual s).auth.sessions = s.auth.sessions := by simp [heardDual]
@[simp] theorem heardAt_windowAt (level : Level) (n : Nat) : (heardAt level s).windowAt n = s.windowAt n := by
  cases level <;> simp [heardAt]
@[simp] theorem heardAt_windows (level : Level) : (heardAt level s).windows = s.windows := by
  cases level <;> simp [heardAt]; rfl
@[simp] theorem heardAt_defaultRoute (level : Level) : (heardAt level s).defaultRoute = s.defaultRoute := by
  cases level <;> simp [heardAt, heardDual] <;> rfl

/-- A panel line, from its CR LF to the transmitter. -/
theorem panelLine_ready (hp : PanelReady s) (i : Instr) :
    panelLine i s = .next (pump (panelServe (panelAnswer (.command i)) (panelHeard s))) := by
  rw [panelLine, panelLineEnds_ready hp]
  rfl

/-- A panel line answered OK whose command leaves the panel's queue alone. -/
theorem panelLine_said {i : Instr} {items : List Item} {t : State} (hp : PanelReady s)
    (hf : panelAnswer (.command i) (panelHeard s) = (.ok items, t)) (hq : t.panel = s.panel.fresh) :
    panelLine i s = .next (panelSaid items t) := by
  rw [panelLine_ready hp, panelServe_quiet (by rw [hf]; exact hq) items (by rw [hf]), hf]
  simp [panelSaid, hq, panelHeard]

/-- A panel line answered ERR that changes nothing. -/
theorem panelLine_erred {i : Instr} {e : PanelErr} (hp : PanelReady s)
    (hf : panelAnswer (.command i) (panelHeard s) = (.err e, panelHeard s)) :
    panelLine i s = .next (panelErred e (panelHeard s)) := by
  rw [panelLine_ready hp, panelServe_err hf]
  rfl

/-- R179, R183: what a raised notice does: it waits in the start-up hold, enters the buffer, or is dropped and
counted. -/
theorem raiseNotice_cases (l : Line) (s : State) :
    (s.startUp.isSome ∧ raiseNotice l s = { s with link := { s.link with hold := s.link.hold ++ [l] } }) ∨
    (s.startUp = none ∧ s.link.notices.length < Config.noticePlaces ∧
      raiseNotice l s = { s with link := { s.link with notices := s.link.notices ++ [l] } }) ∨
    (s.startUp = none ∧ Config.noticePlaces ≤ s.link.notices.length ∧
      raiseNotice l s =
        { s with link := { s.link with gap := true, lost := min Config.word16Max (s.link.lost + 1) } }) := by
  unfold raiseNotice
  by_cases h : s.startUp.isSome
  · exact .inl ⟨h, by simp [h]⟩
  · have hn : s.startUp = none := by simpa using h
    by_cases hl : s.link.notices.length < Config.noticePlaces
    · exact .inr (.inl ⟨hn, hl, by simp [hn, hl]⟩)
    · exact .inr (.inr ⟨hn, by omega, by simp [hn, hl]⟩)

/-- R178, R180: what the transmitter takes. -/
theorem take_cases (k : LinkPort) :
    (k.sending.isSome ∧ k.take = k) ∨
    (∃ r, k.sending = none ∧ k.reply = some r ∧ k.take = { k with sending := some (Sent.of true r), reply := none }) ∨
    (∃ l rest, k.sending = none ∧ k.reply = none ∧ k.notices = l :: rest ∧
      k.take = if k.gap then
          { k with sending := some (Sent.of false l), notices := rest ++ [gapLine k.lost], gap := false, lost := 0 }
        else { k with sending := some (Sent.of false l), notices := rest }) ∨
    (k.sending = none ∧ k.reply = none ∧ k.notices = [] ∧ k.take = k) := by
  unfold LinkPort.take
  cases hs : k.sending with
  | some x => exact .inl ⟨rfl, rfl⟩
  | none =>
    cases hr : k.reply with
    | some r => exact .inr (.inl ⟨r, rfl, rfl, rfl⟩)
    | none =>
      cases hn : k.notices with
      | nil => exact .inr (.inr (.inr ⟨rfl, rfl, rfl, rfl⟩))
      | cons l rest => exact .inr (.inr (.inl ⟨l, rest, rfl, rfl, rfl, rfl⟩))

end Sys2Proof.Machine
end

