-- ==== Sys2Proof/Tests/Slice0.lean ====
section
/-! SUPPORT. Tests: an ill-formed command for each check of `WellFormed`, the manual's worked examples, and for each
statement with hypotheses a concrete state and operands that meet them. -/

namespace Sys2Proof.Tests

open Machine

set_option Elab.async false

/-! ## Small states -/

/-- The state after a command. -/
def after (c : Instr) (s : State) : State :=
  match exec c s with
  | .next t => t
  | _ => s
def run (l : List Instr) (s : State) : State := l.foldl (fun t c => after c t) s
/-- The line in the transmitter, as it goes out. -/
def wire (s : State) : Text := (s.link.sending.map Sent.wire).getD []
/-- The line in the transmitter, without its check suffix and CR LF. -/
def said (s : State) : Text := (wire s).take ((wire s).length - 8)
/-- STARTED has gone out: nothing is sent. -/
def quiet : State := after .linkTransmitEnd .reset
/-- The characters of a request line, with its check suffix. -/
def hostLine (t : String) : Text := lineWire [.word t]
/-- A request line is read as this. -/
def reads (t : String) : LinkLine := readLine (hostLine t).dropLast

def cust (g : Group) : Custodian :=
  { state := .enrolled, group := g, label := [], verifier := some ⟨txt "123456"⟩, failed := 0 }
/-- DUAL, with the custodians 1 and 12 logged on. -/
def duo : State :=
  let s := (quiet.setCustodian 1 (some (cust .a))).setCustodian 12 (some (cust .b))
  { s with auth := { s.auth with sessions := [1, 12], state := .dual, dualTimer := some 300 } }

def mat : Material := { key := List.replicate 16 0x0B, cv := 0x010203, tag := [9] }
def rec (st : HeldState) (cls : KeyClass) : SlotRec :=
  { state := st, cls := cls, alg := .b128k16, label := txt "K", kver := 1
    allowance := if cls = .transport then none else some { budget := .count 5, reserved := 2 }
    bound := [], material := if st = .assembling then none else some mat }
def bound (lane held : Nat) (r : SlotRec) : SlotRec := { r with bound := [{ lane := lane, held := held }] }
def acct : Account :=
  { pfx := 0x4A17C0, first := 2000, last := 9000, step := 1, next := 2003, returned := [2001], threshold := 100
    armed := true, consumed := 1, voided := 0 }
/-- Slots and an account: 0 ROOT ACTIVE with an account, 1 TRANSPORT ACTIVE, 2 DIRECT SUSPENDED, 3 ASSEMBLING,
4 ROOT ACTIVE without an account, 5 bound; 63 DIRECT ACTIVE; the others EMPTY. -/
def keyed : State :=
  ((((((((duo.setSlot 0 (some (rec .active .root))).setSlot 1 (some (rec .active .transport))).setSlot 2
    (some (rec .suspended .direct))).setSlot 3 (some (rec .assembling .direct))).setSlot 4
    (some (rec .active .root))).setSlot 5 (some (bound 7 2 (rec .active .direct)))).setSlot 63
    (some (rec .active .direct)))).setAccount 0 (some acct)

/-! ## Witnesses: for each statement, states and operands that meet its hypotheses, clause by clause -/

theorem witness_RefusedRequestChangesNothing :
    requestOf (.readRecord (txt "7")) = some (.operator, txt "7") ∧ LinkReady quiet ∧
      (lineEnds (.request (.readRecord (txt "7"))) quiet).link.reply = some [.raw (txt "7"), .word "ERR", .word "EMPTY"] ∧
      requestOf (.suspendSlot (txt "7") (.val 63)) = some (.custodian, txt "7") ∧ LinkReady duo ∧ duo.mode = .normal ∧
      duo.auth.state = .dual ∧
      ((lineEnds (.request (.suspendSlot (txt "7") (.val 63))) duo).link.reply.bind fun l => l[1]?) =
        some (.word "ERR") := by decide +kernel

theorem witness_RequestsNotAdmitted :
    OperatorReady quiet ∧ quiet.auth.state ≠ .dual ∧
      requestOf (.enrolCustodian (txt "7") (.val 1) .absent .absent) = some (.custodian, txt "7") ∧
      requestOf (.clearWindow (txt "7") (.val 15) .custodian) = some (.custodian, txt "7") ∧
      requestOf (.clearWindow (txt "7") (.val 15) .operator) = some (.operator, txt "7") ∧
      LinkReady { quiet with mode := .failed } ∧
      groupEnrolled .a { duo with auth := { duo.auth with sessions := [1], state := .single } } = true := by
  decide +kernel

theorem witness_SlotStateRequests :
    CustodianReady keyed ∧ keyed.slotAt 63 = some (rec .active .direct) ∧ keyed.slotAt 2 = some (rec .suspended .direct) ∧
      keyed.slotAt 0 = some (rec .active .root) ∧ (rec .active .root).bound = [] ∧
      keyed.slotAt 62 = none ∧ keyed.slotAt 3 = some (rec .assembling .direct) ∧ (rec .assembling .direct).bound = [] ∧
      keyed.slotAt 5 = some (bound 7 2 (rec .active .direct)) ∧ (bound 7 2 (rec .active .direct)).bound ≠ [] ∧
      (64 : Nat) < 10 ^ 8 ∧ (keyed.slotAt 2).map SlotRec.state ≠ some .active ∧
      (keyed.slotAt 63).map SlotRec.state ≠ some .suspended := by decide +kernel

theorem witness_KeySettings :
    CustodianReady keyed ∧ 1000000 < 1000001 ∧ 1000001 < 10 ^ 8 ∧
      keyed.slotAt 3 = some (rec .assembling .direct) ∧ (rec .assembling .direct).state = .assembling ∧
      keyed.slotAt 1 = some (rec .active .transport) ∧ (rec .active .transport).allowance = none ∧
      keyed.slotAt 63 = some (rec .active .direct) ∧
      (rec .active .direct).allowance = some { budget := .count 5, reserved := 2 } ∧ 1 < 2 ∧ 2 ≤ 1000000 ∧
      (3601 : Nat) < 10 ^ 8 ∧ (0 : Nat) < 10 ^ 8 := by decide +kernel

theorem witness_SlotReads :
    OperatorReady keyed ∧ keyed.slotAt 63 = some (rec .active .direct) ∧ keyed.slotAt 62 = none ∧
      keyed.slotAt 3 = some (rec .assembling .direct) ∧ keyed.slotAt 1 = some (rec .active .transport) := by
  decide +kernel

theorem witness_KeysNotShown :
    OperatorReady keyed ∧ keyed.slotAt 63 = some (rec .active .direct) ∧ (rec .active .direct).material = some mat ∧
      ({ mat with key := [], tag := [] } : Material).cv = mat.cv ∧
      (∃ t, exec (.readSlot (txt "7") (.val 63)) keyed = .next t) ∧
      ∃ t, exec (.readWindow (txt "7") (.val 0) .custodian)
        (keyed.setSlot 63 (some { rec .active .direct with material := some { mat with key := [], tag := [] } })) = .next t :=
  ⟨by decide +kernel, by decide +kernel, by decide +kernel, rfl, ⟨_, rfl⟩, _, rfl⟩

def loadStep : Step := { kind := .loadDirect, slot := some 63, tslot := some 1, pos := some 0 }
def derivedStep : Step := { kind := .loadDerived, slot := some 0, tslot := some 1, pos := some 9 }

theorem witness_ReleaseUndoesBinding :
    (∀ n r, (keyed.setSlot 5 none).slotAt n = some r → ∀ b ∈ r.bound, b.lane ≠ 7) ∧
      ∃ t, bindSlots 7 [(0, loadStep)] (keyed.setSlot 5 none) = .ok t := by
  refine ⟨fun n r h b hb => ?_, _, rfl⟩
  by_cases hn : n < 64
  · have key : ∀ n < 64, ∀ r ∈ ((keyed.setSlot 5 none).slotAt n).toList, r.bound = [] := by decide +kernel
    rw [key n hn r (by simp [h])] at hb
    cases hb
  · rw [State.slotAt, look, Vector.getElem?_eq_none (by omega)] at h
    cases h

/-- Every slot of `keyed` keeps the budget law. -/
theorem witness_BudgetLawKept : BudgetLawful keyed ∧ ∃ t, step keyed = .next t := by
  refine ⟨fun n r al m h1 h2 h3 => ?_, _, rfl⟩
  by_cases hn : n < 64
  · have key : ∀ n < 64, ∀ r ∈ (keyed.slotAt n).toList, ∀ al ∈ r.allowance.toList,
        al = { budget := .count 5, reserved := 2 } := by decide +kernel
    have := key n hn r (by simp [h1]) al (by simp [h2])
    subst this
    cases h3
    decide
  · rw [State.slotAt, look, Vector.getElem?_eq_none (by omega)] at h1
    cases h1

/-- `s` with an operation in flight. -/
def busy (q : Nat) (r : CipherRequest) (dropped : Bool) (s : State) : State :=
  let e : Executing := { requester := q, request := r, input := inputOf s r, dropped := dropped }
  { s with cipher := { s.cipher with executing := some e } }

theorem witness_Scrubber_expiry :
    (let s := { keyed with keys := { keyed.keys with scrubPointer := 5 } }
     s.keys.scrubTimer.isSome ∧ look s.cipher.waiting none 9 = none ∧ s.slotAt ((s.keys.scrubPointer + 1 + 57) % 64) =
         some (rec .active .direct) ∧ (∀ j < 57, s.slotAt ((s.keys.scrubPointer + 1 + j) % 64) = none) ∧
       s.cipher.executing = none ∧ s.cipher.selfTest = false ∧ s.mode = .normal ∧
       (busy 0 (.scrub 0 0) true s).cipher.executing.isSome) ∧
    (let s := { keyed with keys := { keyed.keys with scrubPointer := 2 } }
     s.slotAt ((s.keys.scrubPointer + 1 + 0) % 64) = some (rec .assembling .direct) ∧
       (rec .assembling .direct).state = .assembling) ∧
    (quiet.keys.scrubTimer.isSome ∧ ∀ n < 64, quiet.slotAt n = none) := by decide +kernel

/-- The tag of the contents of `rec`, which the cipher puts out; and any other run of bytes. -/
def goodTag : Text := Config.cipher.tag .direct .b128k16 mat.key 1 (txt "K")
theorem witness_Scrubber_completion (tag : Text) :
    let m : Material := { mat with tag := tag }
    let r : SlotRec := { rec .active .direct with material := some m }
    let s := busy 9 (.scrub 63 0) false (keyed.setSlot 63 (some r))
    s.cipher.executing = some { requester := 9, request := .scrub 63 0
                                input := .tag .direct .b128k16 mat.key 1 (txt "K"), dropped := false } ∧
      (∀ q < 10, look s.cipher.waiting none q = none) ∧ s.slotAt 63 = some r ∧ r.material = some m ∧
      s.keys.entryNos = keyed.keys.entryNos ∧ 0 = look keyed.keys.entryNos 0 63 ∧ 1 ≠ look keyed.keys.entryNos 0 63 ∧
      goodTag ++ [0] ≠ goodTag :=
  ⟨rfl, fun q h => by interval_cases q <;> rfl, rfl, rfl, rfl, by decide +kernel, by decide +kernel, by simp⟩

theorem witness_ArbiterServesInTurn :
    let req : CipherRequest := .scrub 63 0
    let s := busy 0 (.scrub 0 0) true { keyed with cipher := { keyed.cipher with
      last := 0, waiting := put keyed.cipher.waiting 9 (some req) } }
    s.cipher.executing.isSome ∧ s.cipher.selfTest = false ∧ s.mode = .normal ∧
      look s.cipher.waiting none ((s.cipher.last + 1 + 8) % 10) = some req ∧
      (∀ j < 8, look s.cipher.waiting none ((s.cipher.last + 1 + j) % 10) = none) ∧ startCheck s req = .started := by
  decide +kernel

theorem witness_RosterRequests :
    OperatorReady quiet ∧ groupEnrolled .a quiet = false ∧ quiet.custodianAt 1 = none ∧ quiet.custodianAt 12 = none ∧
      (txt "ABCDEFGHIJKL").length = 12 ∧ (txt "ABCDEFGHIJKL").all isPrintable = true ∧
      12 < (txt "ABCDEFGHIJKLM").length ∧ [(0x1F : Byte)].all isPrintable = false ∧
      CustodianReady duo ∧ groupEnrolled .a duo = true ∧ duo.custodianAt 2 = none ∧ (duo.custodianAt 12).isSome ∧
      (0 : Nat) < 10 ^ 8 ∧ 12 < 13 ∧ duo.custodianAt 12 = some (cust .b) ∧ 12 ∈ duo.auth.sessions ∧
      (duo.setCustodian 2 (some (cust .a))).custodianAt 2 = some (cust .a) ∧ 2 ∉ duo.auth.sessions := by decide +kernel

theorem witness_UnlockCustodian :
    (let c : Custodian := { cust .a with state := .locked, failed := 3 }
     let s := duo.setCustodian 11 (some c)
     CustodianReady s ∧ s.custodianAt 11 = some c ∧ c.state = .locked ∧
       (s.custodianAt 12).map Custodian.state ≠ some .locked ∧ (s.custodianAt 2).map Custodian.state ≠ some .locked) ∧
    (let c : Custodian := { cust .a with state := .pending, verifier := none }
     let s := quiet.setCustodian 1 (some c)
     PanelReady s ∧ isPasscode (txt "123456") = true ∧ s.custodianAt 1 = some c) := by decide +kernel

theorem witness_SetDualWindow :
    CustodianReady duo ∧ (59 : Nat) < 10 ^ 8 ∧ 1801 < 10 ^ 8 ∧ OperatorReady quiet ∧ quiet.auth.state ≠ .dual ∧
      ∃ t, exec .powerLoss duo = .next t :=
  ⟨by decide +kernel, by decide, by decide, by decide +kernel, by decide +kernel, _, rfl⟩

def pend : Custodian := { cust .a with state := .pending, verifier := none }
/-- Custodian 12 is `c`; custodian 1, of group A, is logged on. -/
def solo (c : Custodian) : State :=
  let s := (quiet.setCustodian 1 (some (cust .a))).setCustodian 12 (some c)
  { s with auth := { s.auth with sessions := [1], state := .single } }

theorem witness_PasscodeLines_newcode :
    PanelReady quiet ∧ isPasscode (txt "12345") = false ∧ isPasscode (txt "123456") = true ∧
      isPasscode (txt "123456789012") = true ∧ isPasscode (txt "1234567890123") = false ∧
      quiet.custodianAt 12 = none ∧ PanelReady (quiet.setCustodian 12 (some pend)) ∧
      (quiet.setCustodian 12 (some pend)).custodianAt 12 = some pend ∧ txt "123456" ≠ txt "1234567" := by
  decide +kernel

theorem witness_PasscodeLines_logon_refused :
    PanelReady quiet ∧ isPasscode (txt "12345") = false ∧ quiet.custodianAt 12 = none ∧
      PanelReady (quiet.setCustodian 12 (some pend)) ∧ pend.state = .pending ∧
      (let c : Custodian := { cust .a with state := .locked }
       PanelReady (quiet.setCustodian 12 (some c)) ∧ (quiet.setCustodian 12 (some c)).custodianAt 12 = some c) ∧
      PanelReady duo ∧ duo.custodianAt 12 = some (cust .b) ∧ 12 ∈ duo.auth.sessions ∧
      (let s := duo.setCustodian 11 (some (cust .a))
       PanelReady s ∧ s.custodianAt 11 = some (cust .a) ∧ 11 ∉ s.auth.sessions ∧ 2 ≤ s.auth.sessions.length) := by
  decide +kernel

theorem witness_PasscodeLines_logon :
    (let s := quiet.setCustodian 12 (some (cust .a))
     PanelReady s ∧ SessionsLawful s ∧ s.custodianAt 12 = some (cust .a) ∧ 12 ∉ s.auth.sessions ∧
       (cust .a).verifier ≠ some ⟨txt "1234567"⟩ ∧ (cust .a).verifier = some ⟨txt "123456"⟩ ∧ s.auth.sessions = []) ∧
    (let c : Custodian := { cust .b with failed := 2 }
     PanelReady (solo c) ∧ SessionsLawful (solo c) ∧ (solo c).custodianAt 12 = some c ∧ 12 ∉ (solo c).auth.sessions ∧
       c.verifier ≠ some ⟨txt "1234567"⟩ ∧ c.verifier = some ⟨txt "123456"⟩ ∧ (solo c).auth.sessions = [1] ∧
       (solo c).custodianAt 1 = some (cust .a) ∧ (cust .a).group ≠ c.group) ∧
    PanelReady (solo (cust .a)) ∧ SessionsLawful (solo (cust .a)) := by decide +kernel

/-- `s` with an assembly open in slot 3. -/
def assembling (a : Assembly) (s : State) : State := { s with asm := { s.asm with record := some a, count := 1 } }
def asm0 : Assembly :=
  { slot := 3, parts := 2, expected := none, alg := .b64k16, done := [], acc := List.replicate 16 0, held := none
    phase := .collecting, number := 1, finished := none, finishedCv := none }
/-- Odd bytes, and even ones. -/
def oddKey : Text := List.replicate 16 0x0B
def evenKey : Text := List.replicate 16 0x0A

theorem witness_SessionsEnd :
    (let s := assembling asm0 keyed
     PanelReady s ∧ SessionsLawful s ∧ 11 ∉ s.auth.sessions ∧ 12 ∈ s.auth.sessions ∧ 1 ∈ s.auth.sessions ∧
       s.auth.dualTimer.isSome ∧ s.auth.state = .dual ∧ s.asm.record = some asm0 ∧ asm0.slot < 64) ∧
    (let s := { keyed with auth := { keyed.auth with sessions := [12], state := .single, dualTimer := none } }
     PanelReady s ∧ SessionsLawful s ∧ 12 ∈ s.auth.sessions ∧ s.auth.sessions.length = 1 ∧ s.asm.record = none ∧
       s.auth.dualTimer = none) := by decide +kernel

theorem witness_Show :
    PanelReady quiet ∧ PanelReady (assembling asm0 keyed) ∧ keyed.auth.sessions = [1, 12] := by decide +kernel

theorem witness_PanelPort :
    PanelReady quiet ∧
      (let s : State := { quiet with panel := { quiet.panel with out := [{ isReply := true, line := [.word "OK"] }] } }
       s.panel.out = [{ isReply := true, line := [.word "OK"] }] ∧ s.panel.held = none) ∧
      panelOpen quiet = true ∧ quiet.panel.held = none ∧ quiet.panel.skip = false ∧ quiet.panel.long = false ∧
      quiet.panel.cr = false ∧ quiet.panel.buffer.length < 120 ∧
      (let s : State := { quiet with panel := { quiet.panel with buffer := List.replicate 120 0x41 } }
       panelOpen s = true ∧ s.panel.buffer.length = 120) ∧
      (let s : State := { quiet with panel := { quiet.panel with cr := true, long := true } }
       panelOpen s = true ∧ panelBusy s = false ∧ s.panel.held = none ∧ s.panel.skip = false) ∧
      readPanel (txt "SHOW NOW") = .refused .badSyntax ∧ readPanel (txt "HELLO") = .refused .unknown ∧
      readPanel (txt "LOGON ID=12 CODE=123456") = .command (.logon 12 (txt "123456")) ∧
      readPanel (txt "NEWCODE ID=1 CODE=123456 AGAIN=123457") = .command (.newcode 1 (txt "123456") (txt "123457")) ∧
      readPanel (txt "LOGOFF ID=12") = .command (.logoff 12) ∧ readPanel (txt "SHOW") = .command .showPanel ∧
      readPanel (txt "COMPONENT ID=01 KEY=3E01") = .command (.component 1 [0x3E, 0x01]) ∧
      readPanel (txt "CONFIRM ID=2 ANSWER=YES") = .command (.confirmYes 2) ∧
      readPanel (txt "CONFIRM ID=2 ANSWER=NO") = .command (.confirmNo 2) := by decide +kernel

theorem witness_AssembleBegin :
    CustodianReady keyed ∧ (62 : Nat) < 64 ∧ algPair? .block128 32 = some .b128k32 ∧ (255 : Nat) ≤ 255 ∧
      (txt "SIXTEEN LETTERS.").length = 16 ∧ (txt "SIXTEEN LETTERS.").all isPrintable = true ∧
      keyed.latch = false ∧ keyed.asm.record = none ∧ keyed.slotAt 62 = none ∧ (keyed.slotAt 63).isSome ∧
      CustodianReady { keyed with latch := true } ∧ CustodianReady (assembling asm0 keyed) ∧
      (assembling asm0 keyed).asm.record.isSome := by decide +kernel

theorem witness_AssembleCancel :
    OperatorReady quiet ∧ quiet.auth.state ≠ .dual ∧ OperatorReady duo ∧ duo.auth.state = .dual ∧
      duo.asm.record = none ∧ OperatorReady (assembling asm0 keyed) ∧
      (assembling asm0 keyed).asm.record = some asm0 := by decide +kernel

theorem witness_Component :
    (let s := assembling asm0 keyed
     PanelReady s ∧ s.asm.record = some asm0 ∧ asm0.phase = .collecting ∧ asm0.held = none ∧ s.auth.state = .dual ∧
       11 ∉ s.auth.sessions ∧ 12 ∈ s.auth.sessions ∧ 12 ∉ asm0.done.map Prod.fst ∧ oddKey.length = asm0.alg.keyLen ∧
       (oddKey ++ [0x0B]).length ≠ asm0.alg.keyLen ∧ oddKey.all isOdd = true ∧ s.asm.policy = .adjust) ∧
    (let a : Assembly := { asm0 with done := [(12, 7)] }
     let s := assembling a keyed
     PanelReady s ∧ 12 ∈ a.done.map Prod.fst ∧ 1 ∉ a.done.map Prod.fst) ∧
    (let s := assembling asm0 { keyed with asm := { keyed.asm with policy := .strict } }
     PanelReady s ∧ asm0.alg.family = .block64 ∧ s.asm.policy = .strict ∧ evenKey.all isOdd = false ∧
       evenKey.length = asm0.alg.keyLen) ∧
    (let s := assembling asm0 { keyed with auth := { keyed.auth with sessions := [1], state := .single } }
     PanelReady s ∧ s.auth.state ≠ .dual) := by decide +kernel

theorem witness_Component_early :
    PanelReady duo ∧ duo.asm.record = none ∧ PanelReady (assembling { asm0 with phase := .finishingTag } keyed) ∧
    (let a : Assembly := { asm0 with held := some { id := 1, bytes := oddKey, cv := none }, phase := .checking }
     PanelReady (assembling a keyed) ∧ a.held.isSome ∧ 12 ∈ (assembling a keyed).auth.sessions) := by decide +kernel

theorem witness_Confirm :
    let h : HeldComponent := { id := 12, bytes := oddKey, cv := some 5 }
    let a : Assembly := { asm0 with held := some h, phase := .confirming }
    let z : Assembly := { a with done := [(1, 7)] }
    PanelReady (assembling a keyed) ∧ (assembling a keyed).asm.record = some a ∧ a.phase = .confirming ∧
      a.held = some h ∧ h.cv = some 5 ∧ h.id ≠ 1 ∧ keyed.auth.state = .dual ∧ a.done.length + 1 < a.parts ∧
      PanelReady (assembling z keyed) ∧ z.done.length + 1 = z.parts ∧
      PanelReady (assembling a { keyed with auth := { keyed.auth with sessions := [12], state := .single } }) := by
  decide +kernel

theorem witness_AssemblyOutputs :
    let h : HeldComponent := { id := 12, bytes := oddKey, cv := none }
    let a : Assembly := { asm0 with held := some h, phase := .checking }
    let b (x : Option CheckValue) : Assembly := { asm0 with phase := .finishingCheck, expected := x }
    let c : Assembly := { asm0 with phase := .finishingTag, finished := some oddKey, finishedCv := some 5 }
    let check : CipherRequest := .asmCheck 1 .b64k16 oddKey
    let tag : CipherRequest := .asmTag 1 .direct .b64k16 oddKey 1 []
    let cv := Config.cipher.check .b64k16 oddKey
    (∀ q < 10, look (busy 8 check false (assembling a keyed)).cipher.waiting none q = none) ∧
      (busy 8 check false (assembling a keyed)).slotAt a.slot = some (rec .assembling .direct) ∧ a.slot < 64 ∧
      check = .asmCheck a.number .b64k16 oddKey ∧ inputOf keyed check = .check .b64k16 oddKey ∧
      tag = .asmTag c.number .direct .b64k16 oddKey 1 [] ∧ inputOf keyed tag = .tag .direct .b64k16 oddKey 1 [] ∧
      c.finished = some oddKey ∧ keyed.cipher.selfTest = false ∧ keyed.mode = .normal ∧
      (b (some cv)).expected = some cv ∧ (b (some (cv + 1))).expected = some (cv + 1) ∧ cv + 1 ≠ cv :=
  ⟨by decide +kernel, by decide +kernel, by decide, by decide, rfl, by decide, rfl, rfl, by decide +kernel,
    by decide +kernel, rfl, rfl, by bv_omega⟩

theorem witness_SessionsLawKept : SessionsLawful duo ∧ ∃ t, step { duo with pending := [.dualWindowExpiry] } = .next t :=
  ⟨by decide +kernel, _, rfl⟩

theorem witness_OpenIssue :
    CustodianReady keyed ∧ (16777216 : Nat) < 10 ^ 8 ∧ 16777215 < 16777216 ∧
      (∀ r, keyed.slotAt 63 = some r → r.state = .assembling ∨ r.cls ≠ .root ∨ (keyed.accountAt 63).isSome) ∧
      (∀ r, keyed.slotAt 62 = some r → r.state = .assembling ∨ r.cls ≠ .root ∨ (keyed.accountAt 62).isSome) ∧
      keyed.slotAt 4 = some (rec .active .root) ∧ keyed.accountAt 4 = none ∧
      (∃ k a, keyed.accountAt k = some a ∧ a.pfx = 0x4A17C0) ∧
      CustodianReady (keyed.setAccount 0 none) ∧ (keyed.setAccount 0 none).slotAt 4 = some (rec .active .root) ∧
      (∀ k a, (keyed.setAccount 0 none).accountAt k = some a → a.pfx ≠ 0x4A17C0) ∧
      min 65535 (100 : Nat) < (101 - 1) / 1 + 1 ∧ (100 - 1) / 1 + 1 ≤ min 65535 (100 : Nat) := by
  have h62 : keyed.slotAt 62 = none := by decide +kernel
  have h63 : keyed.slotAt 63 = some (rec .active .direct) := by decide +kernel
  refine ⟨by decide +kernel, by decide, by decide, fun r h => ?_, fun r h => ?_, by decide +kernel, by decide +kernel,
    ⟨0, acct, by decide +kernel, rfl⟩, by decide +kernel, by decide +kernel, fun k a h => ?_, by decide, by decide⟩
  · rw [h63] at h; cases h; exact .inr (.inl (by decide))
  · rw [h62] at h; cases h
  · have key : (keyed.setAccount 0 none).accounts = Vector.replicate 64 none := by decide +kernel
    rw [State.accountAt, key, look_replicate] at h; cases h

theorem witness_IssueAccountChanges :
    CustodianReady keyed ∧ keyed.accountAt 63 = none ∧ keyed.accountAt 0 = some acct ∧ 16777216 < 10 ^ 8 ∧
      9000 ≤ acct.last ∧ acct.last < 9001 ∧ acct.last < 16777215 ∧ min 65535 6998 < acct.remaining ∧
      acct.remaining ≤ min 65535 6999 ∧ acct.armed = true ∧
      CustodianReady (keyed.setAccount 0 (some { acct with armed := false })) := by decide +kernel

theorem witness_ReadIssue :
    OperatorReady keyed ∧ keyed.accountAt 63 = none ∧ keyed.accountAt 0 = some acct ∧ acct.next ≤ acct.last := by
  decide +kernel

theorem witness_IssueNumberMoves :
    AccountLawful acct ∧ acct.exhausted = false ∧ acct.returned ≠ [] ∧ keyed.accountAt 0 = some acct ∧
      2000 ∉ acct.returned ∧ acct.returned.length < 8 ∧
      (let a : Account := { acct with returned := [] }
       AccountLawful a ∧ a.exhausted = false) ∧
      (let a : Account := { acct with next := 2020, returned := [2001, 2002, 2003, 2004, 2005, 2006, 2007, 2008] }
       AccountLawful a ∧ (keyed.setAccount 0 (some a)).accountAt 0 = some a ∧ 2009 ∉ a.returned ∧
         a.returned.length = 8) := by decide +kernel

def awaitStep : Step := { kind := .await, limit := some 1000 }
def hailStep : Step := { kind := .hail }
/-- A draft at its greatest number of steps. -/
def fullDraft : Draft := { label := txt "FULL", steps := awaitStep :: List.replicate 23 hailStep }
def ver (n : Nat) (steps : List Step) : Version := { number := n, label := txt "V", steps := steps }
/-- Plan 0 fresh, 1 installed, 14 with a full draft and users, 15 with a retiring version and a draft. -/
def planned : State :=
  ((keyed.setPlan 1 { Plan.factory with installed := some (ver 1 [awaitStep, hailStep]), counter := 1 }).setPlan 14
    { Plan.factory with
      installed := some (ver 65535 [awaitStep]), users := [7], draft := some fullDraft, counter := 65535 }).setPlan 15
    { installed := some (ver 2 [awaitStep]), users := [6], retiring := some (ver 1 [awaitStep]), rusers := [7]
      draft := some { label := [], steps := [awaitStep, hailStep] }, counter := 2 }

theorem witness_EditPlan :
    OperatorReady planned ∧ (planned.planAt 0).draft = none ∧ (planned.planAt 0).installed = none ∧
      (planned.planAt 1).draft = none ∧ (planned.planAt 1).installed = some (ver 1 [awaitStep, hailStep]) ∧
      (planned.planAt 14).draft = some fullDraft ∧ (planned.planAt 15).draft.isSome ∧
      StepArgs.fit .pause { slot := .val 3 } = false ∧ StepArgs.fit .hail {} = true ∧
      StepArgs.fit .pause { duration := .val 9 } = true ∧ fullDraft.steps.length = 24 ∧ 23 < fullDraft.steps.length ∧
      (2 : Nat) ≤ [awaitStep, hailStep].length ∧ (txt "SIXTEEN LETTERS.").length ≤ 16 := by decide +kernel

theorem witness_DiscardDraft :
    OperatorReady planned ∧ (planned.planAt 1).draft = none ∧ (planned.planAt 15).draft.isSome ∧
      (planned.planAt 1).installed = some (ver 1 [awaitStep, hailStep]) := by decide +kernel

theorem witness_InstallAndRemovePlan :
    CustodianReady planned ∧ (planned.planAt 1).draft = none ∧ (planned.planAt 14).draft = some fullDraft ∧
      draftFault fullDraft.steps = none ∧ (planned.planAt 14).retiring = none ∧ (planned.planAt 14).users ≠ [] ∧
      (planned.planAt 14).counter = 65535 ∧ draftFault [awaitStep, hailStep] = none ∧
      (planned.planAt 15).retiring.isSome ∧ (draftFault []).isSome ∧ (planned.planAt 0).installed = none ∧
      (planned.planAt 15).users ≠ [] ∧ (planned.planAt 1).installed = some (ver 1 [awaitStep, hailStep]) ∧
      (planned.planAt 1).users = [] := by decide +kernel

theorem witness_PlanReads :
    OperatorReady planned ∧ (planned.planAt 0).draft = none ∧ (planned.planAt 0).installed = none ∧
      (planned.planAt 0).retiring = none ∧ (planned.planAt 14).draft = some fullDraft ∧
      fullDraft.steps[23]? = some hailStep ∧ (planned.planAt 15).retiring = some (ver 1 [awaitStep]) ∧
      fullDraft.steps.length ≤ 24 := by decide +kernel

theorem witness_ValidDraftLaw :
    draftFault [awaitStep, hailStep, { kind := .identify }, loadStep, derivedStep,
      { kind := .verify, pos := some 9 }, { kind := .pause, duration := some 10 }] = none ∧
    draftFault [{ kind := .identify }, { kind := .route }] = none := by decide +kernel

def identity : Identity := { model := txt "VX20", serial := 0x7F00AB12, firmware := 0x0203, sealed := false }
def win (owner : Owner) (kind : WindowKind) (model : String) : Window :=
  { enabled := true, owner := owner, kind := kind, model := txt model, test := .mask 0x7F00AB00 0xFFFFFF00
    minfw := some 0x0203, plan := if kind = .route then some 15 else none }
/-- Windows: 14 excludes VX21, 15 routes VX2? to plan 15. -/
def windowed : State :=
  (planned.setWindow 14 (some (win .custodian .exclude "VX21"))).setWindow 15 (some (win .operator .route "VX2?"))

theorem witness_RouteDecision :
    windowed.windowAt 15 = some (win .operator .route "VX2?") ∧ (win .operator .route "VX2?").hits identity = true ∧
      (∀ k < 15, ∀ x ∈ (windowed.windowAt k).toList, x.hits identity = false) ∧
      (let i : Identity := { identity with model := txt "VX21" }
       windowed.windowAt 14 = some (win .custodian .exclude "VX21") ∧
         (win .custodian .exclude "VX21").hits i = true ∧ (win .custodian .exclude "VX21").kind = .exclude ∧
         decideRoute (some i) windowed = (none, .window 14)) ∧
      (∀ k x, quiet.windowAt k = some x → x.hits identity = false) ∧ quiet.defaultRoute = .reject ∧
      decideRoute (some identity) windowed = (some 15, .window 15) ∧
      ((windowed.setPlan 15 .factory).planAt 15).installed = none ∧
      decideRoute (some identity) (windowed.setPlan 15 .factory) = (some 15, .window 15) ∧
      (let s := windowed.setPlan 15 { Plan.factory with installed := some (ver 1 [{ kind := .route }]) }
       decideRoute (some identity) s = (some 15, .window 15) ∧
         (s.planAt 15).installed = some (ver 1 [{ kind := .route }])) := by
  refine ⟨by decide +kernel, by decide +kernel, by decide +kernel, by decide +kernel, fun k x h => ?_, by decide +kernel,
    by decide +kernel, by decide +kernel, by decide +kernel, by decide +kernel⟩
  have key : quiet.windows = Vector.replicate 16 none := by decide +kernel
  rw [State.windowAt, key, look_replicate] at h; cases h

theorem witness_WindowChanges :
    LevelReady .custodian windowed ∧ LevelReady .operator windowed ∧ isPattern (txt "VX2?") = true ∧
      (windowed.windowAt 14).map Window.owner = some .custodian ∧
      (windowed.windowAt 15).map Window.owner = some .operator ∧ windowed.windowAt 0 = none ∧
      WindowArgs.serialTest? { test := .val .span, low := .val 5, high := .val 5 } = some (.span 5 5) ∧
      WindowArgs.serialTest? { test := .val .any } = some .any ∧ CustodianReady windowed ∧ (16 : Nat) < 10 ^ 8 := by decide +kernel

theorem witness_WindowReads :
    LevelReady .operator windowed ∧ LevelReady .custodian windowed ∧ windowed.windowAt 0 = none ∧
      windowed.windowAt 14 = some (win .custodian .exclude "VX21") ∧
      windowed.windowAt 15 = some (win .operator .route "VX2?") := by decide +kernel

/-! Lanes: lane 7 throughout. -/

def req : RunRequest := { plan := 1, rep := 2, tag := 65535, iteration := 1 }
/-- `s` with lane 7 changed. -/
def lane7 (f : Lane → Lane) (s : State) : State := s.modLane 7 f
def line7 (f : BenchLine → BenchLine) (s : State) : State := s.modLine 7 f
def context (stage : Stage) (step : Nat) : RunContext :=
  { ordinal := 1, plan := 1, version := some 1, steps := [awaitStep, derivedStep, { kind := .pause, duration := some 10 }]
    routed := none, following := .start, step := step, stage := stage, identity := none
    deliveries := [{ pos := 9, slot := 0, tslot := 1, cv := none, tki := some { pfx := 0x4A17C0, number := 2002 }
                     phase := .reserved, reason := none }]
    frameSent := false, waits := 0, abortPending := false, notes := [], heldKey := none, header := none }
def openEntry : Record :=
  { closed := false, lane := 7, ordinal := 1, tag := 65535, iteration := 1, plan := 1, version := some 1, routed := none
    outcome := none, failStep := none, identity := none, deliveries := (context .frame 1).deliveries, voided := []
    notes := [] }
/-- Lane 7 RUNNING with a context, its step timer running, its entry OPEN. -/
def running (c : RunContext) (s : State) : State :=
  let t := lane7 (fun l => { l with
    state := .running, queue := [req, req], ctx := some c, timer := some 500, ordinal := 1 }) s
  { t with records := { t.records with entries := [openEntry] } }
/-- The Record Queue is full, and has been reported. -/
def crowded (s : State) : State :=
  { s with records := { s.records with
      entries := List.replicate 48 { openEntry with lane := 6, closed := true, outcome := some .complete }
      fullReported := true } }
def heldLane (s : State) : State :=
  let t := lane7 (fun l => { l with state := .held, queue := [req] }) (crowded s)
  { t with records := { t.records with waiting := [7], told := [7] } }

theorem witness_QueueRun :
    OperatorReady planned ∧ (65536 : Nat) < 10 ^ 8 ∧ (8 : Nat) ≤ 8 ∧ (16 : Nat) ≤ 16 ∧
      OperatorReady (lane7 (fun l => { l with state := .offline }) planned) ∧
      (planned.planAt 15).installed.isSome ∧ (planned.planAt 0).installed = none ∧
      (let s := running (context .awaiting 0) planned
       OperatorReady s ∧ (s.laneAt 7).state ≠ .offline ∧ (s.laneAt 7).state ≠ .idle ∧
         (s.laneAt 7).queue.length < 4) ∧
      (let s := lane7 (fun l => { l with queue := [req, req, req, req] }) (heldLane planned)
       OperatorReady s ∧ (s.laneAt 7).state ≠ .offline ∧ 4 ≤ (s.laneAt 7).queue.length) ∧
      planned.records.entries.length < 48 ∧ (planned.laneAt 7).state = .idle ∧ (planned.laneAt 7).queue = [] ∧
      OperatorReady (crowded planned) ∧ ((crowded planned).laneAt 7).state = .idle ∧
      ((crowded planned).laneAt 7).queue = [] ∧ (crowded planned).records.entries.length = 48 ∧
      (crowded planned).records.fullReported = true := by decide +kernel

theorem witness_RunStart :
    let s := lane7 (fun l => { l with queue := [req] }) planned
    (s.laneAt 7).queue = [req] ∧ s.records.entries.length < 48 ∧
      (s.planAt req.plan).installed = some (ver 1 [awaitStep, hailStep]) ∧
      (ver 1 [awaitStep, hailStep]).steps = [awaitStep, hailStep] ∧ awaitStep.kind = .await ∧
      (∀ x ∈ [hailStep], x.kind.isLoad = false) ∧ (s.lineAt 7).presence = false ∧ s.records.entries = [] ∧
      req.plan < 16 := by decide +kernel

/-- The context with its delivery started. -/
def delivering (c : RunContext) : RunContext := c.modDelivery fun d => { d with phase := .delivering, cv := some 5 }
def aborting (c : RunContext) : RunContext := { c with abortPending := true }

theorem witness_AbortLane :
    OperatorReady planned ∧ (planned.laneAt 7).state = .idle ∧ OperatorReady (heldLane planned) ∧
      ((heldLane planned).laneAt 7).state = .held ∧ ((heldLane planned).laneAt 7).queue.length ≤ 1 ∧
      OperatorReady (running (context .awaiting 0) planned) ∧
      (delivering (context .frame 1)).delivering = true ∧ (context .frame 1).delivering = false ∧
      (running (context .compute 1) planned).ctxAt 7 = some (context .compute 1) ∧
      look (running (context .compute 1) planned).cipher.waiting none 7 = none ∧
      (context .compute 1).abortPending = false ∧ (aborting (context .awaiting 0)).abortPending = true ∧
      (let s := running (context .compute 1) planned
       let t : State := { s with cipher := { s.cipher with waiting := put s.cipher.waiting 7 (some (.scrub 0 0)) } }
       OperatorReady t ∧ (look t.cipher.waiting none 7).isSome) := by decide +kernel

theorem witness_RunEndLeaves :
    (running (context .frame 1) planned).ctxAt 7 = some (context .frame 1) ∧
      (running (context .frame 1) planned).records.entries[0]? = some openEntry ∧ openEntry.lane = 7 ∧
      openEntry.closed = false := by decide +kernel

theorem witness_LaneSettings :
    OperatorReady planned ∧ (planned.laneAt 7).state = .idle ∧ OperatorReady (heldLane planned) ∧
      ((heldLane planned).laneAt 7).state = .held ∧ 19200 = Rate.r19200.bps ∧ 115200 = Rate.r115200.bps ∧
      19201 ∉ [9600, 19200, 38400, 57600, 115200] ∧ (planned.lineAt 7).rate = .r19200 ∧
      (let s := lane7 (fun l => { l with state := .offline, online := false }) planned
       OperatorReady s ∧ (s.laneAt 7).state = .offline ∧ (s.lineAt 7).tx = .idle) := by decide +kernel

theorem witness_LaneTimers :
    (planned.laneAt 7).timer = none ∧
      (running (context .awaiting 0) planned).ctxAt 7 = some (context .awaiting 0) ∧
      ((running (context .awaiting 0) planned).laneAt 7).timer.isSome ∧
      (context .pausing 2).abortPending = false ∧ (context .pausing 2).steps.length ≤ (context .pausing 2).step + 1 ∧
      (let c : RunContext := { context .frame 0 with steps := [hailStep] }
       c.delivering = false ∧ c.current = some hailStep ∧ hailStep.continues = false) ∧
      (let st : Step := { kind := .verify, pos := some 9, cont := some true }
       let c : RunContext := { context .frame 2 with steps := [awaitStep, derivedStep, st] }
       c.delivering = false ∧ c.current = some st ∧ st.continues = true ∧ c.steps.length ≤ c.step + 1) ∧
      (delivering (context .frame 1)).delivering = true ∧
      ((heldLane planned).laneAt 7).state = .held ∧ 7 ∈ (heldLane planned).records.told ∧
      ((heldLane planned).laneAt 7).queue = [req] ∧ (heldLane planned).records.entries.length = 48 ∧
      (heldLane planned).records.fullReported = true ∧ (planned.laneAt 7).state ≠ .held := by decide +kernel

/-- A request of lane 7 in flight. -/
def flight (op : LaneOp) (ordinal : BitVec 16) (s : State) : State :=
  busy 7 (.lane { ordinal := ordinal, op := op, step := 1, slot := 0, tslot := 1, key := none, header := none
                  tki := some { pfx := 0x4A17C0, number := 2002 } }) false s

theorem witness_LoadOutputs :
    let c : RunContext := { context .compute 1 with heldKey := some oddKey, header := some [1] }
    let d : Delivery := { pos := 9, slot := 0, tslot := 1, cv := none
                          tki := some { pfx := 0x4A17C0, number := 2002 }, phase := .reserved, reason := none }
    let s := flight .derive 1 (running c planned)
    (∀ q < 10, look s.cipher.waiting none q = none) ∧ s.cipher.selfTest = false ∧ s.mode = .normal ∧
      s.ctxAt 7 = some c ∧ c.current = some derivedStep ∧ c.delivery = some d ∧ derivedStep.kind.isLoad = true ∧
      d.slot = 0 ∧ d.tslot = 1 ∧ s.slotAt 0 = some (rec .active .root) ∧ s.slotAt 1 = some (rec .active .transport) ∧
      c.ordinal = 1 ∧ c.ordinal ≠ 2 ∧ c.abortPending = false ∧ c.heldKey = some oddKey ∧ c.header = some [1] ∧
      (aborting c).abortPending = true ∧ (s.lineAt 7).tx = .idle ∧
      ((line7 (fun l => { l with tx := .sending { ordinal := 9, kind := .hail, body := [] } .r19200 .none [] }) s).lineAt
        7).tx ≠ .idle ∧
      (s.cipher.executing.map Executing.input) = some (.derive .b128k16 mat.key (txt "4A17C00007D2")) ∧
      ((flight .check 1 s).cipher.executing.map Executing.input) = some (.check .b128k16 mat.key) ∧
      ((flight .wrap 1 s).cipher.executing.map Executing.input) = some (.wrap .b128k16 mat.key [] mat.key) ∧
      (let c' : RunContext := { context .compute 0 with
         steps := [loadStep]
         deliveries := [{ d with pos := 0, slot := 63, tki := none }] }
       let s' := running c' planned
       c'.current = some loadStep ∧ loadStep.kind.isLoad = true ∧ c'.delivery.map Delivery.slot = some 63 ∧
         s'.slotAt 63 = some (rec .active .direct)) := by decide +kernel

theorem witness_Cradle :
    (quiet.lineAt 7).contact = false ∧ quiet.power = true ∧ quiet.startUp = none ∧ (quiet.lineAt 7).settle = none ∧
      (let s := line7 (fun l => { l with settle := some 50, contact := true }) planned
       (s.lineAt 7).settle.isSome ∧ (s.lineAt 7).contact = true ∧ s.ctxAt 7 = none) ∧
      (let c : RunContext := { context .awaiting 0 with steps := [awaitStep] }
       let s := line7 (fun l => { l with settle := some 50, contact := true }) (running c planned)
       s.ctxAt 7 = some c ∧ c.stage = .awaiting ∧ (s.lineAt 7).served = false ∧ c.abortPending = false ∧
         c.step + 1 = c.steps.length) ∧
      (let s := line7 (fun l => { l with settle := some 50, presence := true, served := true })
         (running (delivering (context .frame 1)) planned)
       (s.lineAt 7).settle.isSome ∧ (s.lineAt 7).contact = false ∧
         s.ctxAt 7 = some (delivering (context .frame 1)) ∧ (delivering (context .frame 1)).delivering = true ∧
         (context .frame 0).delivering = false) := by decide +kernel

def keyFrame : OutFrame := { ordinal := 1, kind := .key, body := [1, 2, 3] }

theorem witness_BenchSend :
    (quiet.lineAt 7).tx = .idle ∧ (quiet.lineAt 7).next = none ∧
      (let s := line7 (fun l => { l with next := some keyFrame })
         ((running (context .frame 1) planned).setSlot 0 (some (bound 7 1 (rec .active .root))))
       (s.lineAt 7).tx = .idle ∧ (s.lineAt 7).next = some keyFrame ∧ s.ctxAt 7 = some (context .frame 1) ∧
         (context .frame 1).ordinal = keyFrame.ordinal ∧ ((context .frame 1).delivery.map Delivery.slot) = some 0 ∧
         s.slotAt 0 = some (bound 7 1 (rec .active .root)) ∧
         (bound 7 1 (rec .active .root)).allowance = some { budget := .count 5, reserved := 2 } ∧
         { lane := 7, held := 1 } ∈ (bound 7 1 (rec .active .root)).bound) ∧
      (let s := line7 (fun l => { l with tx := .sending keyFrame .r9600 .even [] }) (running (context .frame 1) planned)
       (s.lineAt 7).tx = .sending keyFrame .r9600 .even [] ∧ (s.lineAt 7).next = none ∧
         (context .frame 1).stage = .frame ∧ (context .frame 1).current = some derivedStep) := by decide +kernel

def hunting : State := line7 (fun l => { l with expected := some .ready }) (running { context .frame 0 with
  steps := [hailStep] } planned)

theorem witness_BenchReceive :
    ((line7 (fun l => { l with rx := .closed }) quiet).lineAt 7).rx = .closed ∧ (quiet.lineAt 7).rx = .hunting ∧
      (quiet.lineAt 7).expected = none ∧ (hunting.lineAt 7).expected.isSome ∧ (hunting.lineAt 7).rx = .hunting ∧
      (List.replicate 200 (0 : Byte)).length ≤ 200 ∧ frameCheck 0x21 [] ≠ frameCheck 0x22 [] ∧
      (let l : BenchLine := { quiet.lineAt 7 with rx := .collecting [0xB7, 0x21] false .r19200 .none, gapTimer := some 20 }
       ((quiet.setLine 7 l).lineAt 7).gapTimer.isSome) ∧
      charError .none 0xB7 true true = false ∧ charError .even 0xB7 false true = false ∧
      charError .odd 0xB7 false true = true ∧ charError .none 0xB7 true false = true := by decide +kernel

theorem witness_Replies :
    hunting.ctxAt 7 = some { context .frame 0 with steps := [hailStep] } ∧ hailStep.kind.isFrame = true ∧
      ({ context .frame 0 with steps := [hailStep] } : RunContext).current = some hailStep ∧
      ({ context .frame 0 with waits := 2 } : RunContext).waits < 3 ∧
      3 ≤ ({ context .frame 0 with waits := 3 } : RunContext).waits ∧
      (let s := running (delivering (context .frame 1)) planned
       s.ctxAt 7 = some (delivering (context .frame 1)) ∧ (delivering (context .frame 1)).delivering = true ∧
         (delivering (context .frame 1)).current = some derivedStep ∧ derivedStep.kind.isFrame = true ∧
         ((delivering (context .frame 1)).delivery.bind Delivery.cv) = some 5) ∧
      (let st : Step := { kind := .verify, pos := some 9 }
       let c : RunContext := { delivering (context .frame 2) with steps := [awaitStep, derivedStep, st] }
       c.delivering = false ∧ c.current = some st ∧ st.pos = some 9 ∧
         ((c.deliveries.find? fun d => d.pos = 9).bind Delivery.cv) ≠ some 6) := by decide +kernel

theorem witness_FrameCharByChar :
    (hunting.lineAt 7).rx = .hunting ∧ (List.replicate 200 (0xFF : Byte)).length ≤ 200 := by decide +kernel

def closedEntry : Record := { openEntry with closed := true, lane := 6, ordinal := 65535, outcome := some .complete }

theorem witness_RecordRequests :
    let s : State := { planned with records := { planned.records with entries := [openEntry, closedEntry], waiting := [5] } }
    OperatorReady s ∧ s.records.entries = [openEntry] ++ closedEntry :: [] ∧ openEntry.closed = false ∧
      closedEntry.closed = true ∧ closedEntry.lane = 6 ∧ closedEntry.ordinal.toNat = 65535 ∧
      (openEntry.lane ≠ 6 ∨ openEntry.ordinal.toNat ≠ 65535) ∧ (closedEntry.lane ≠ 6 ∨ closedEntry.ordinal.toNat ≠ 65534) ∧
      (∀ r ∈ s.records.entries, r.lane ≠ 0 ∨ r.ordinal.toNat ≠ 0) ∧ closedEntry.deliveries.length ≤ 1 ∧
      closedEntry.deliveries[0]?.isSome ∧ OperatorReady planned ∧ planned.records.entries = [] := by decide +kernel

theorem witness_PortAnswers :
    LinkReady quiet ∧ quiet.mode = .normal ∧ quiet.link.buffer.length < 240 ∧
      (let s : State := { quiet with link := { quiet.link with buffer := List.replicate 240 0x20 } }
       LinkReady s ∧ s.link.buffer.length = 240) ∧
      readLine (hostLine "7 READ-SLOT SLOT=63").dropLast = .request (.readSlot (txt "7") (.val 63)) ∧
      readLine (txt "7 READ-SLOT SLOT=63") = .refused .badCheck := by decide +kernel

theorem witness_Transmitter :
    let x : Sent := { isReply := true, line := [], wire := [] }
    let s : State := { quiet with link := { quiet.link with sending := some x } }
    let h : State := { s with link := { s.link with rx := .holding, held := some (.request (.status (txt "7"))) } }
    s.link.sending = some x ∧ s.link.rx ≠ .holding ∧ s.link.reply = none ∧ s.link.notices = [] ∧ s.link.gap = false ∧
      ({ quiet.link with notices := List.replicate 16 [.word "!"], gap := true, lost := 65535 } : LinkPort).gap = true ∧
      h.link.rx = .holding ∧ h.link.held = some (.request (.status (txt "7"))) ∧ h.link.mark = none ∧ x.isReply = true := by
  decide +kernel

theorem witness_RequestLinesRead :
    (txt "9999").length ≤ 4 ∧ (txt "9999").all isDigit = true ∧ 1 ≤ (txt "7").length ∧ (99999999 : Nat) < 10 ^ 8 ∧
      ∃ v : BitVec 16, v ≠ crc16 0xFFFF#16 (txt "7 READ-SLOT SLOT=63 ") :=
  ⟨by decide, by decide, by decide, by decide, 0, by decide +kernel⟩

theorem witness_TamperEvent :
    quiet.power = true ∧ State.factory.power = false ∧ State.factory.offRecord = none ∧
      (let s := running (delivering (context .frame 1)) planned
       s.power = true ∧ (∀ n < 8, (s.laneAt n).state = .running → (s.ctxAt n).isSome) ∧
         s.records.entries[0]? = some openEntry ∧ openEntry.closed = false ∧ openEntry.lane < 8 ∧
         (s.laneAt openEntry.lane).state = .running ∧ s.startUp = none ∧ s.link.notices.length < 16) ∧
      State.reset.link.sending.isSome := by decide +kernel

theorem witness_PowerAndRestart :
    quiet.power = true ∧ State.factory.power = false ∧ State.factory.offRecord = none ∧
      (after .tamperPowerOff State.factory).offRecord = some (0, 0) ∧
      (after .tamperPowerOff State.factory).power = false ∧ quiet.link.draining = false ∧
      (let s : State := { quiet with link := { quiet.link with draining := true, rx := .closed } }
       s.power = true ∧ s.startUp = none ∧ s.link.sending = none ∧ s.link.reply = none ∧ s.link.notices = []) := by
  decide +kernel

theorem witness_StartUpEnds :
    quiet.startUp = none ∧ (after .powerOn State.factory).startUp = some .powerOn ∧
      (after .powerOn State.factory).cipher.executing = none := by decide +kernel

theorem witness_StatusRestartAcknowledge :
    LinkReady quiet ∧ OperatorReady quiet ∧
      (∀ l ∈ quiet.lanes.toList, (l.state = .idle ∨ l.state = .offline) ∧ l.queue = []) ∧
      OperatorReady (heldLane planned) ∧ (∃ l ∈ (heldLane planned).lanes.toList, l.state = .held) ∧
      CustodianReady duo ∧ duo.latch = false ∧ CustodianReady { duo with latch := true } := by decide +kernel

theorem witness_NonVolatileKept : ∃ t, exec .powerLoss planned = .next t := ⟨_, rfl⟩

/-- Every version of `planned` is valid, and so is every version of a state with the same plans. -/
theorem witness_VersionsValid : VersionsValid planned := fun n v h => by
  by_cases hn : n < 16
  · have key : ∀ n < 16, ∀ v ∈ (planned.planAt n).installed.toList ++ (planned.planAt n).retiring.toList,
        draftFault v.steps = none := by decide +kernel
    exact key n hn v (by rcases h with h | h <;> simp [h])
  · rw [State.planAt, look, Vector.getElem?_eq_none (by omega)] at h
    rcases h with h | h <;> cases h

theorem witness_StoreLawsKept :
    RecordsFit (crowded planned) ∧ NoticesFit planned ∧ QueuesFit planned ∧ CountersFit planned ∧
      VersionsValid planned ∧ AccountsOwned planned ∧ (∀ n a, planned.accountAt n = some a → AccountLawful a) ∧
      (∃ t, step planned = .next t) := by
  have key : ∀ n < 64, planned.accountAt n = if n = 0 then some acct else none := by decide +kernel
  have out : ∀ n, 64 ≤ n → planned.accountAt n = none := fun n h => by
    rw [State.accountAt, look, Vector.getElem?_eq_none h]; rfl
  refine ⟨by decide +kernel, by decide +kernel, by decide +kernel, by decide +kernel, witness_VersionsValid,
    fun n hn h => ?_, fun n a h => ?_, _, rfl⟩
  · rw [key n hn] at h
    split at h
    · subst n; exact ⟨rec .active .root, by decide +kernel, by decide, by decide⟩
    · cases h
  · by_cases hn : n < 64
    · rw [key n hn] at h
      split at h
      · cases h; decide
      · cases h
    · rw [out n (by omega)] at h; cases h

theorem witness_WindowMatching : (txt "VX2?").length = 4 ∧ (txt "ZZZZ").length = 4 := by decide

/-! ## Reset, the queue, and the checks of `WellFormed` -/

/-- R183, R188: STARTED is what the transmitter sends at reset, with the check of R173. -/
theorem test_reset_started :
    said State.reset = txt "! STARTED CAUSE=POWER-ON MODE=NORMAL INTERRUPTED=0" ∧
      State.reset.link.sending.map (fun x => lineWire x.line) = some startedWire := by decide +kernel

/-- The model's reset state is what power-on and the self-test make of the module as the vendor ships it (entry 1). -/
theorem test_reset_is_start_up :
    after (.selfTestComplete true true true true) (after .powerOn .factory) = State.reset := by decide +kernel

theorem test_step_takes_the_front :
    (match step { quiet with pending := [.powerLoss, .powerOn] } with
      | .next t => decide (t.pending = [.powerOn] ∧ t.power = false)
      | _ => false) = true := by decide +kernel

theorem test_decode_no_word : decodeTableWord 16 0x1234 = none := rfl

theorem test_wf_tag : Instr.wf (.status (txt "12345")) = false ∧ Instr.wf (.status []) = false ∧
    Instr.wf (.restart (txt "A7")) = false ∧ Instr.wf (.status (txt "0002")) = true := by decide
theorem test_wf_number : Instr.wf (.readSlot (txt "7") (.val 100000000)) = false ∧
    Instr.wf (.readSlot (txt "7") (.val 99999999)) = true := by decide
theorem test_wf_text : Instr.wf (.editPlanLabel (txt "7") (.val 0) (.val [0x0A]) false) = false := by decide
theorem test_wf_budget : Instr.wf (.setBudget (txt "7") (.val 0) (.val (.count 100000000))) = false := by decide
theorem test_wf_route : Instr.wf (.setDefaultRoute (txt "7") (.val (.plan 100000000))) = false := by decide
theorem test_wf_step : Instr.wf (.editPlanSet (txt "7") (.val 0) (.val 0) (.val .pause) { duration := .val 10000000 } false) =
    false := by decide
theorem test_wf_assemble : Instr.wf (.assembleBegin (txt "7") { label := .val [0x1F] }) = false := by decide
theorem test_wf_window : Instr.wf (.setWindow (txt "7") { minfw := .val 10000000 } .operator) = false := by decide
theorem test_wf_id : Instr.wf (.logoff 100) = false ∧ Instr.wf (.logoff 99) = true := by decide
theorem test_wf_digits : Instr.wf (.logon 1 []) = false ∧ Instr.wf (.logon 1 (txt "12A456")) = false := by decide
theorem test_wf_component : Instr.wf (.component 1 []) = false ∧ Instr.wf (.component 1 (List.replicate 61 0)) = false := by
  decide
theorem test_wf_refused_line : Instr.wf (.linkLineRefused (.unknown (txt "A7"))) = false := by decide
theorem test_wf_body : Instr.wf (.benchFrameReceived 0 0x21 (List.replicate 201 0) 0 false) = false := by decide +kernel

/-! ## The manual's worked examples, one step at a time -/

/-- Table 1-5: with one delivery reserved, SET-BUDGET SLOT=9 BUDGET=0 is refused RANGE. -/
def nine (budget reserved held : Nat) : State := duo.setSlot 9 (some (bound 0 held { rec .active .direct with
  allowance := some { budget := .count budget, reserved := reserved } }))
theorem test_budget_below_reserved :
    said (after (.setBudget (txt "7") (.val 9) (.val (.count 0))) (nine 2 1 1)) = txt "7 ERR RANGE" := by decide +kernel
theorem test_budget_zero :
    said (after (.setBudget (txt "7") (.val 9) (.val (.count 0))) (nine 1 0 0)) = txt "7 OK SLOT=9 BUDGET=0 RESERVED=0" := by
  decide +kernel
/-- Table 1-5, third row: a bind that fails on its second step leaves no trace. -/
theorem test_bind_fails_whole :
    bindSlots 1 [(0, { loadStep with slot := some 9 }), (1, { loadStep with slot := some 9, pos := some 4 })]
      ((nine 3 2 2).setSlot 1 (some (rec .active .transport))) = .error (.budget, 1) := by decide +kernel

/-- Table 1-8, event 11 to 13: the scrubber's TAG differs, slot 4 becomes FAULTED, and lane 1's DERIVE is not served. -/
def arbiter : State :=
  let s := busy 9 (.scrub 4 0) false keyed
  { s with cipher := { s.cipher with last := 9, waiting := put s.cipher.waiting 1 (some (.lane
      { ordinal := 1, op := .derive, step := 0, slot := 4, tslot := 1, tki := none, key := none, header := none })) } }
theorem test_scrub_fault :
    (let t := after (.cipherOperationComplete false) arbiter
     (t.slotAt 4).map SlotRec.state = some .faulted ∧ said t = txt "! SLOT-FAULT SLOT=4" ∧ t.cipher.executing = none ∧
       t.cipher.last = 1 ∧ look t.cipher.waiting none 1 = none) := by decide +kernel

/-- Tables 2-8 and 2-9: the exclusive-or of components and the parity step of BLOCK-64. -/
theorem test_combination :
    parityStep .block64 (xorText [0x3E, 0x01, 0x7E, 0x15] [0x1F, 0x80, 0x02, 0x2A]) = [0x20, 0x80, 0x7C, 0x3E] ∧
      parityStep .block64 (xorText [0x21, 0x81, 0x7D, 0x3F] [0x40, 0x03, 0x10, 0x08]) = [0x61, 0x83, 0x6D, 0x37] := by
  decide +kernel

/-- Table 2-7, event 9: a wrong passcode. -/
theorem test_logon_denied :
    (let t := after (.logon 12 (txt "000000")) (solo (cust .b))
     t.panel.out.map PanelOut.line = [[.word "ERR", .word "DENIED"]] ∧
       (t.custodianAt 12).map Custodian.failed = some 1) := by decide +kernel
/-- Table 2-7, event 10: a good one makes DUAL, and AUTH is told. -/
theorem test_logon_dual :
    (let t := after (.logon 12 (txt "123456")) (solo (cust .b))
     t.auth.state = .dual ∧ t.auth.dualTimer = some 300 ∧ said t = txt "! AUTH STATE=DUAL IDS=1,12 CAUSE=LOGON") := by
  decide +kernel
/-- Table 2-7, event 14: the TAG completes an assembly of three components. -/
theorem test_assembly_done :
    said (after (.cipherOperationComplete true) (busy 8 (.asmTag 1 .direct .b64k16 oddKey 1 []) false (assembling
      { asm0 with parts := 3, done := [(2, 0xE7144B), (5, 0x0B92F6), (9, 0x71D02C)], phase := .finishingTag
                  finished := some oddKey, finishedCv := some 0x5C03A1 } keyed))) =
      txt "! ASSEMBLY SLOT=3 RESULT=DONE CV=5C03A1 PARTS=2:E7144B,5:0B92F6,9:71D02C" := by decide +kernel

/-- Table 3-3, row 0. -/
theorem test_open_issue :
    said (after (.openIssue (txt "7") (.val 4) (.val 0x51B200) (.val 1000) (.val 1010) (.val 3) (.val 2)) keyed) =
      txt "7 OK SLOT=4 PREFIX=51B200 REMAINING=4 THRESHOLD=2 ARMED=YES" := by decide +kernel
/-- Table 3-3, rows 2, 3, 7 and 9. -/
def shift (next last : Nat) (returned : List Nat) : Account :=
  { pfx := 0x4A17C0, first := 1000, last := last, step := 3, next := next, returned := returned, threshold := 2
    armed := false, consumed := 1, voided := 0 }
theorem test_issue_counts :
    (shift 1006 1010 []).remaining = 2 ∧ (shift 1006 1010 [1000]).remaining = 3 ∧ (shift 1012 1010 []).remaining = 0 ∧
      (shift 1012 1015 []).remaining = 2 ∧ (shift 1012 1010 []).reserved = 3 ∧ (shift 1012 1015 [1000]).reserved = 2 ∧
      drawNumber (shift 1006 1010 [1000]) = (1000, shift 1006 1010 []) := by decide +kernel
/-- Table 3-4: a return into a full list voids the number; a draw takes the smallest. -/
def eleven (returned : List Nat) : Account :=
  { pfx := 0x51B200, first := 0, last := 500, step := 1, next := 120, returned := returned, threshold := 10, armed := true
    consumed := 0, voided := 0 }
theorem test_full_returned_list :
    returnNumber 11 114 (duo.setAccount 11 (some (eleven [31, 44, 57, 62, 70, 88, 95, 103]))) =
        (true, duo.setAccount 11 (some { eleven [31, 44, 57, 62, 70, 88, 95, 103] with voided := 1 })) ∧
      (eleven [31, 44, 57, 62, 70, 88, 95, 103]).remaining = 389 ∧
      (drawNumber (eleven [31, 44, 57, 62, 70, 88, 95, 103])).1 = 31 := by decide +kernel

/-- Table 4-5, event 1: a draft from the installed version, with its TIMEOUT clamped. -/
theorem test_edit_plan_clamps :
    said (after (.editPlanSet (txt "7") (.val 3) (.val 4) (.val .verify) { pos := .val 2, timeout := .val 90000 } false)
      (quiet.setPlan 3 { Plan.factory with installed := some (ver 7 (List.replicate 9 hailStep)), counter := 7 })) =
      txt "7 OK PLAN=3 STEPS=9 STEP=4 KIND=VERIFY TIMEOUT=60000" := by decide +kernel
/-- R81: a PLAN of eight digits is not of its form, but for one past 15, which check 1 has refused. -/
theorem test_edit_plan_digits :
    reads "7 EDIT-PLAN PLAN=00000003 ACTION=LABEL" = .request (.editPlanLabel (txt "7") .malformed .absent false) ∧
      reads "7 EDIT-PLAN PLAN=0000003 ACTION=LABEL" = .request (.editPlanLabel (txt "7") (.val 3) .absent false) ∧
      reads "7 EDIT-PLAN PLAN=00000016 ACTION=LABEL" = .request (.editPlanLabel (txt "7") (.val 16) .absent false) := by
  decide +kernel
/-- Table 4-6, attempts 1, 3 and 5. -/
def draft5 (p4 p5 : Nat) : List Step :=
  [awaitStep, hailStep, { kind := .identify }, { kind := .loadDerived, slot := some 6, tslot := some 20, pos := some 0 },
    { kind := .loadDirect, slot := some 9, tslot := some 20, pos := some p4 },
    { kind := .verify, pos := some p5, cont := some true }, { kind := .seal }]
theorem test_install_plan :
    said (after (.installPlan (txt "7") (.val 5)) (duo.setPlan 5 { Plan.factory with
        draft := some { label := [], steps := draft5 0 3 } })) =
        txt "7 ERR DRAFT-INVALID STEP=4 REASON=POSITION-TWICE" ∧
      (draftFault (draft5 1 3)).map (fun r => r.1) = some 5 ∧ draftFault (draft5 1 1) = none := by decide +kernel

/-- Tables 5-3 and 5-4: the window set, as an OPERATOR-level reading shows it, and the decisions a to c. -/
def shop : State :=
  let w (o : Owner) (k : WindowKind) (e : Bool) (m : String) (t : SerialTest) (fw plan : Option Nat) : Option Window :=
    some { enabled := e, owner := o, kind := k, model := txt m, test := t, minfw := fw, plan := plan }
  ((((quiet.setWindow 0 (w .custodian .exclude true "VX??" (.mask 0x7F000000 0xFF000000) none none)).setWindow 1
    (w .operator .route true "VX20" .any (some 300) (some 4))).setWindow 2
    (w .operator .route true "VX20" .any none (some 5))).setWindow 3
    (w .operator .route false "PX7?" .any none (some 6))).setWindow 4
    (w .custodian .route true "PX7?" (.span 0x00100000 0x001FFFFF) none (some 7))
theorem test_window_summary :
    said (after (.readWindowSummary (txt "7") .operator) shop) =
      txt "7 OK WINDOWS=HRRrH----------- DEFAULT=REJECT" := by decide +kernel
theorem test_route_decisions :
    let ident (serial : BitVec 32) (fw : BitVec 16) : Option Identity :=
      some { model := txt "VX20", serial := serial, firmware := fw, sealed := false }
    decideRoute (ident 0x7F0012A0 310) shop = (none, .window 0) ∧
      decideRoute (ident 0x12004455 310) shop = (some 4, .window 1) ∧
      decideRoute (ident 0x12004456 250) shop = (some 5, .window 2) := by decide +kernel

/-- Table 7-5, events 2, 4 and 6: a WAIT; the timer notes VERIFY and hands over SEAL; a late CHECK ends the run. -/
def verifyStep : Step := { kind := .verify, pos := some 1, cont := some true }
def verify : RunContext := { context .frame 0 with steps := [verifyStep, { kind := .seal }], frameSent := true }
def verifying (c : RunContext) (k : ReplyKind) : State :=
  line7 (fun l => { l with expected := some k, presence := true }) (running c planned)
theorem test_wait :
    (let t := after (.benchFrameReceived 7 0x2F [] (frameCheck 0x2F []) false) (verifying verify .check)
     (t.ctxAt 7).map RunContext.waits = some 1 ∧ (t.laneAt 7).timer = some 3000) := by decide +kernel
theorem test_timeout_is_noted :
    (let t := after (.stepTimerExpiry 7) (verifying verify .check)
     (t.ctxAt 7).map RunContext.step = some 1 ∧ (t.lineAt 7).expected = some .done ∧
       (t.ctxAt 7).map RunContext.notes = some [{ step := 0, kind := .timeout }]) := by decide +kernel
theorem test_late_reply :
    (let t := after (.benchFrameReceived 7 0x24 [1, 0x51, 0xA0, 0xC7] (frameCheck 0x24 [1, 0x51, 0xA0, 0xC7]) false)
       (verifying { verify with step := 1 } .done)
     t.records.entries[0]?.bind Record.outcome = some .protocol ∧ (t.lineAt 7).served = true ∧
       (t.lineAt 7).expected = none) := by decide +kernel
/-- R136, R141: a parity error within a frame drops it, at its last character. -/
theorem test_bad_frame_is_counted :
    ((after (.benchFrameReceived 7 0x21 [] (frameCheck 0x21 []) true) hunting).lineAt 7).checkErr = 1 := by decide +kernel

/-- Section 8.7, Table 8-10: the authenticated headers of two envelopes. -/
theorem test_envelope_header :
    envelopeHeader { rec .active .root with kver := 3, label := txt "ROOT-NORTH" } 0
        (some { pfx := 0x4A17C0, number := 2000 }) =
        [0x01, 0x44, 0x02, 0x10, 0x03, 0x00, 0x4E, 0x02, 0x54, 0x0C] ++ txt "4A17C00007D0" ++ [0x4C, 0x0A] ++
          txt "ROOT-NORTH" ∧
      envelopeHeader { rec .active .direct with alg := .b64k24, kver := 12, label := [] } 1 none =
        [0x01, 0x4B, 0x01, 0x18, 0x0C, 0x01, 0x4E, 0x00] := by decide +kernel
/-- Table 8-11: the wrapped lengths; section 8.7: ACCEPT bodies. -/
theorem test_envelope_lengths :
    wrappedLen 16 .b128k32 = 16 ∧ wrappedLen 24 .b128k32 = 32 ∧ wrappedLen 16 .b64k16 = 16 ∧
      decodeReply 0x23 [0x00, 0x9D, 0x40, 0xE2] = .accept 0 0x9D40E2 ∧ decodeReply 0x23 [0x01, 0x51, 0xA0] =
        .malformed .accept := by decide +kernel
/-- R151, R152: CRC-16 with polynomial 1021h; from 0000h and from FFFFh, over the nine digits, a published check. -/
theorem test_crc : crc16 0 (txt "123456789") = 0x31C3 ∧ crc16 0xFFFF (txt "123456789") = 0x29B1 := by decide +kernel

/-- R165: at ROUTE the granted binding writes its deliveries, in phase RESERVED, and the refused reservation no TKI; the
record closes with them. Slot 4 is a root without an issue account. -/
theorem test_route_key_unavailable :
    (let st : Step := { derivedStep with slot := some 4 }
     let c : RunContext := { context .frame 0 with
       steps := [{ kind := .identify }, { kind := .route }], deliveries := [], identity := none }
     let body : Text := txt "VX20" ++ [0x7F, 0x00, 0xAB, 0x12, 0x02, 0x03, 0x00]
     let s := verifying c .ident
     let t := after (.benchFrameReceived 7 0x22 body (frameCheck 0x22 body) false)
       { s.setPlan 15 { Plan.factory with installed := some (ver 3 [st]), counter := 3 } with defaultRoute := .plan 15 }
     t.records.entries[0]?.map (fun r => (r.outcome, r.routed, r.failStep)) =
         some (some (.keyUnavailable .noIssueAccount), some (15, 3), some 0) ∧
       (t.records.entries[0]?.map Record.deliveries) = some [{ pos := 9, slot := 4, tslot := 1, cv := none, tki := none
                                                               phase := .reserved, reason := none }]) := by decide +kernel

/-- Table 9-2, event 1: no place, and both notices. -/
theorem test_lane_held :
    (let s := crowded planned
     let t := after (.queueRun (txt "7") (.val 6) (.val 1) .absent .absent)
       { s with records := { s.records with fullReported := false } }
     (t.laneAt 6).state = .held ∧ t.records.waiting = [6] ∧ t.records.fullReported = true ∧
       t.link.notices.map (fun l => l[1]?) = [some (.word "LANE-HELD"), some (.word "RECORDS-FULL")]) := by decide +kernel
/-- Table 9-2, events 5 and 6: only the oldest CLOSED entry is discarded, and the waiting lanes are told. -/
def collected : State :=
  { quiet with records := { quiet.records with
      entries := { openEntry with lane := 4, ordinal := 77 } ::
        [{ closedEntry with lane := 1, ordinal := 500 }, { closedEntry with lane := 3, ordinal := 112 }]
      waiting := [1, 2, 6], fullReported := true } }
theorem test_discard_record :
    said (after (.discardRecord (txt "7") (.val 3) (.val 112)) collected) = txt "7 ERR MISMATCH" ∧
      (after (.discardRecord (txt "7") (.val 1) (.val 500)) collected).records.told = [1, 2, 6] ∧
      said (after (.discardRecord (txt "7") (.val 1) (.val 500)) collected) = txt "7 OK LANE=1 ORDINAL=500 FREE=46" := by
  decide +kernel

/-- Table 10-6, rows 1 and 2: the sixteenth notice enters the buffer, the next is lost. -/
theorem test_notice_buffer :
    let s : State := { State.reset with link := { State.reset.link with notices := List.replicate 15 [.word "!"] } }
    let t := raiseNotice [.word "!", .word "RUN-END"] s
    let u := raiseNotice [.word "!", .word "ISSUE-LOW"] t
    t.link.notices.length = 16 ∧ t.link.gap = false ∧ u.link.notices = t.link.notices ∧ u.link.gap = true ∧
      u.link.lost = 1 := by decide +kernel
/-- Table 10-6, row 6: a place frees, and GAP takes it. -/
theorem test_gap_line :
    let k : LinkPort := { quiet.link with notices := List.replicate 16 [.word "!"], gap := true, lost := 2 }
    let t := k.take
    t.notices.length = 16 ∧ t.notices[15]? = some [.word "!", .word "GAP", .field "LOST" (.num 2)] ∧ t.gap = false ∧
      t.lost = 0 := by decide +kernel

/-- Table 10-7: how lines are read. -/
theorem test_lines_read :
    reads "17 READ-SLOT SLOT=9" = .request (.readSlot (txt "17") (.val 9)) ∧ reads "A7 STATUS" = .refused .noTag ∧
      reads "00022 STATUS" = .refused .noTag ∧ reads "18 READ-SLOTS SLOT=9" = .refused (.unknown (txt "18")) ∧
      reads "19 READ-SLOT SLOT=9 SLOT=9" = .refused (.badForm (txt "19") false) := by decide +kernel
theorem test_lines_read_more :
    reads "20 READ-WINDOW WINDOW=4 LEVEL=OPERATOR" = .refused (.badForm (txt "20") false) ∧
      reads "22 SET-SCRUB INTERVAL=7200" = .request (.setScrub (txt "22") (.val 7200)) ∧
      reads "7 ENROL-CUSTODIAN ID=4 GROUP=B LABEL=\"NIGHT SHFT 2\"" =
        .request (.enrolCustodian (txt "7") (.val 4) (.val .b) (.val (txt "NIGHT SHFT 2"))) := by decide +kernel
/-- Table 10-7: how they are answered. -/
theorem test_line_answers :
    said (after (.eraseSlot (txt "21") (.val 70)) quiet) = txt "21 ERR NOT-AUTHORISED" ∧
      said (after (.eraseSlot (txt "21") (.val 70)) duo) = txt "21 ERR RANGE" ∧
      said (after (.setScrub (txt "22") (.val 7200)) duo) = txt "22 OK INTERVAL=3600" ∧
      said (after (.restart (txt "24")) (heldLane planned)) = txt "24 ERR BUSY" := by decide +kernel
theorem test_enrol_reply :
    said (after (.enrolCustodian (txt "23") (.val 4) (.val .b) (.val (txt "NIGHT SHFT 2"))) quiet) =
      txt "23 OK ID=4 STATE=PENDING GROUP=B LABEL=\"NIGHT SHFT 2\"" := by decide +kernel

/-- Section 11.3, Tables 11-1 and 11-2: the resolution of an OPEN entry in start-up. -/
def lost : Record :=
  let d (pos slot : Nat) (k : BitVec 24) (m : Nat) (ph : DeliveryPhase) : Delivery :=
    { pos := pos, slot := slot, tslot := 20, cv := none, tki := some { pfx := k, number := m }, phase := ph, reason := none }
  { openEntry with deliveries := [d 0 6 0x4A17C0 2004 .delivering, d 2 11 0x51B200 125 .reserved] }
theorem test_resolution :
    let s := (duo.setAccount 6 (some { acct with returned := [2001, 2002] })).setAccount 11
      (some { eleven [31, 44, 57, 62, 70, 88, 95, 103] with next := 126, voided := 4 })
    let r := resolveRecord lost s
    r.1.voided = [{ pfx := 0x51B200, number := 125 }] ∧ r.1.outcome = some .interrupted ∧
      (r.2.accountAt 11).map Account.voided = some 5 ∧ (r.2.accountAt 6).map Account.returned = some [2001, 2002] := by
  decide +kernel

end Sys2Proof.Tests
end

namespace Sys2Proof.Machine

/-! ## What the shared operations leave of the Key Store

The named updates of Laws/State.lean have their lemma there; these are the operations made of them. -/

section
variable (s : State) (n : Nat)

@[simp] theorem setStage_slotAt (g : Stage) (m : Nat) : (s.setStage n g).slotAt m = s.slotAt m := rfl
@[simp] theorem slotAt_modCtx (f : RunContext → RunContext) (m : Nat) : (s.modCtx n f).slotAt m = s.slotAt m := rfl
@[simp] theorem slotAt_modLane (f : Lane → Lane) (m : Nat) : (s.modLane n f).slotAt m = s.slotAt m := rfl
@[simp] theorem slotAt_modLine (f : BenchLine → BenchLine) (m : Nat) : (s.modLine n f).slotAt m = s.slotAt m := rfl

@[simp] theorem raiseNotice_keys (l : Line) : (raiseNotice l s).keys = s.keys := by
  unfold raiseNotice; split
  · rfl
  · split <;> rfl

@[simp] theorem raiseMessage_keys (l : Line) : (raiseMessage l s).keys = s.keys := by
  unfold raiseMessage; split <;> rfl

@[simp] theorem raiseBoth_keys (l : Line) : (raiseBoth l s).keys = s.keys := by simp [raiseBoth]

@[simp] theorem syncOpen_keys : (syncOpen n s).keys = s.keys := by
  unfold syncOpen; split <;> rfl

@[simp] theorem modDelivery_keys (f : Delivery → Delivery) : (s.modDelivery n f).keys = s.keys := by
  simp [State.modDelivery]

@[simp] theorem consume_keys : (consume n s).keys = s.keys := by
  unfold consume; split <;> rfl

@[simp] theorem addRecord_keys (r : Record) : (addRecord r s).keys = s.keys := rfl
@[simp] theorem openRun_keys (q : RunRequest) : (openRun n q s).keys = s.keys := rfl
@[simp] theorem stopRun_keys : (stopRun n s).keys = s.keys := by simp [stopRun]
@[simp] theorem markServed_keys (c : RunContext) : (markServed n c s).keys = s.keys := rfl
@[simp] theorem closeRecord_keys (o : Outcome) (k : Option Nat) (v : List Tki) :
    (closeRecord n o k v s).keys = s.keys := rfl

@[simp] theorem refuseRecord_keys : (refuseRecord n s).keys = s.keys := by
  unfold refuseRecord; dsimp only; split
  · rfl
  · rw [raiseNotice_keys]

@[simp] theorem holdLane_keys (q : RunRequest) : (holdLane n q s).keys = s.keys := by
  unfold holdLane; dsimp only; split <;> simp

@[simp] theorem serveRequester_keys (r : CipherRequest) : (serveRequester n r s).1.keys = s.keys := by
  unfold serveRequester; dsimp only; split <;> rfl

@[simp] theorem post_keys (r : CipherRequest) : (post n r s).1.keys = s.keys := by
  unfold post; split
  · exact serveRequester_keys ..
  · rfl

@[simp] theorem postLoad_keys (op : LaneOp) : (postLoad n op s).1.keys = s.keys := by
  unfold postLoad; split
  · rfl
  · split
    · split <;> rename_i h <;> simpa using (congrArg (·.1.keys) h).symm
    · rfl

@[simp] theorem fillHeader_keys : (fillHeader n s).keys = s.keys := by
  unfold fillHeader; split <;> rfl

@[simp] theorem releaseVersions_keys (c : RunContext) : (releaseVersions n c s).keys = s.keys := by
  unfold releaseVersions; dsimp only; split <;> split <;> rfl

@[simp] theorem beginAwait_keys (st : Step) : (beginAwait n st s).1.keys = s.keys := by
  unfold beginAwait; split <;> rfl

@[simp] theorem nextStep_keys : (nextStep n s).1.keys = s.keys := by
  unfold nextStep; split
  · rfl
  · split
    · rfl
    · split <;> rfl

@[simp] theorem endDelivery_keys (p : DeliveryPhase) (w : Option Refuse) : (endDelivery n p w s).keys = s.keys := by
  unfold endDelivery; split
  · rfl
  · split <;> simp

@[simp] theorem failFrame_keys (o : Outcome) (p : DeliveryPhase) (w : Option Refuse) :
    (failFrame n o p w s).1.keys = s.keys := by
  unfold failFrame; split <;> simp

@[simp] theorem noteStep_keys (k : NoteKind) : (noteStep n k s).1.keys = s.keys := by simp [noteStep]

@[simp] theorem reserveOne_keys (a : Account) : (reserveOne n a s).2.keys = s.keys := by
  unfold reserveOne; dsimp only; split <;> split <;> simp

@[simp] theorem returnNumber_keys (m : Nat) : (returnNumber n m s).2.keys = s.keys := by
  unfold returnNumber; split
  · rfl
  · split <;> rfl

end

@[simp] theorem reserveAll_keys (l : List (Nat × Nat)) (s : State) : (reserveAll l s).2.keys = s.keys := by
  induction l generalizing s with
  | nil => rfl
  | cons w l ih => unfold reserveAll; split <;> simp [ih]

@[simp] theorem returnAll_keys (l : List Delivery) (s : State) : (returnAll l s).2.keys = s.keys := by
  induction l generalizing s with
  | nil => rfl
  | cons d l ih => unfold returnAll; split <;> simp [ih]

theorem bindVersion_keys {n p : Nat} {b : Bool} {s t : State} {v : Version} (h : bindVersion n p b s = .ok v t) :
    t.keys = s.keys := by rw [(bindVersion_ok h).2]; rfl

theorem reserveIssue_keys {l : List (Nat × Nat)} {s t : State} {ts : List (Nat × Tki)}
    (h : reserveIssue l s = .ok (ts, t)) : t.keys = s.keys := by
  have := reserveAll_keys l s
  rwa [(reserveIssue_ok h).2] at this

/-! ## What the lanes' work can do to a slot (R11 to R13) -/

/-- One reservation, one delivery start, or the return of reservations. -/
inductive AllowanceStep : Allowance → Allowance → Prop
  | reserve (al : Allowance) : al.available = true → AllowanceStep al { al with reserved := al.reserved + 1 }
  | spend (al : Allowance) : AllowanceStep al { budget := al.budget.spend, reserved := al.reserved - 1 }
  | giveBack (al : Allowance) (held : Nat) : AllowanceStep al { al with reserved := al.reserved - held }

/-- An allowance after some of these. -/
abbrev AllowanceMoves : Allowance → Allowance → Prop := Relation.ReflTransGen AllowanceStep

/-- A slot after some of these: the bindings and the allowance have moved, and nothing else. -/
inductive SlotMoves : Slot → Slot → Prop
  | empty : SlotMoves none none
  | bare (r : SlotRec) (b : List Binding) : r.allowance = none → SlotMoves (some r) (some { r with bound := b })
  | moved (r : SlotRec) (b : List Binding) (al al' : Allowance) : r.allowance = some al → AllowanceMoves al al' →
      SlotMoves (some r) (some { r with bound := b, allowance := some al' })

/-- The Key Store after some of these. -/
def KeyStore.Moves (k k' : KeyStore) : Prop :=
  k' = { k with slots := k'.slots } ∧ ∀ n, SlotMoves (look k.slots none n) (look k'.slots none n)

/-- A change of the bindings alone. -/
theorem SlotMoves.rebound (r : SlotRec) (b : List Binding) : SlotMoves (some r) (some { r with bound := b }) := by
  obtain ⟨_, _, _, _, _, al, _, _⟩ := r
  cases al with
  | none => exact .bare _ b rfl
  | some al => exact .moved _ b al al rfl .refl

theorem SlotMoves.refl : ∀ x : Slot, SlotMoves x x
  | none => .empty
  | some r => .rebound r r.bound

theorem SlotMoves.trans {x y z : Slot} (hxy : SlotMoves x y) (hyz : SlotMoves y z) : SlotMoves x z := by
  cases hxy with
  | empty => exact hyz
  | bare r b h =>
    cases hyz with
    | bare _ b' _ => exact .bare r b' h
    | moved _ b' al al' h' => simp [h] at h'
  | moved r b al al' h hm =>
    cases hyz with
    | bare _ b' h' => simp at h'
    | moved _ b' al₁ al₂ h' hm' =>
      cases h'
      exact .moved r b' al al₂ h (hm.trans hm')

/-- One step of the allowance, with any change of the bindings. -/
theorem SlotMoves.step {r : SlotRec} {al al' : Allowance} (b : List Binding) (h : r.allowance = some al)
    (hs : AllowanceStep al al') : SlotMoves (some r) (some { r with bound := b, allowance := some al' }) :=
  .moved r b al al' h (.single hs)

theorem KeyStore.Moves.refl (k : KeyStore) : k.Moves k := ⟨rfl, fun _ => .refl _⟩

theorem KeyStore.Moves.of_eq {k k' : KeyStore} (h : k' = k) : k.Moves k' := h ▸ .refl k

theorem KeyStore.Moves.trans {k₁ k₂ k₃ : KeyStore} (h₁ : k₁.Moves k₂) (h₂ : k₂.Moves k₃) : k₁.Moves k₃ :=
  ⟨by rw [h₂.1, h₁.1], fun n => (h₁.2 n).trans (h₂.2 n)⟩

/-- A place that has moved, put back into the table. -/
theorem slotMoves_put {t : Table 64 Slot} {i : Nat} {x : Slot} (h : SlotMoves (look t none i) x) (j : Nat) :
    SlotMoves (look t none j) (look (put t i x) none j) := by
  rw [look_put]
  split
  · rename_i hij; rwa [← hij.1]
  · exact .refl _

/-- R11: what a LOAD step that passes its six checks does: a reservation in the key slot, a binding in both. -/
theorem bindStep_ok {lane : Nat} {st : Step} {a b : Table 64 Slot} (h : bindStep lane st a = .ok b) :
    ∃ k al t, look a none (st.slot.getD 64) = some k ∧ k.allowance = some al ∧ al.available = true ∧
      look a none (st.tslot.getD 64) = some t ∧ k.cls = st.kind.keyClass ∧ t.cls = .transport ∧
      b = put (put a (st.slot.getD 64) (some { k with
          allowance := some { al with reserved := al.reserved + 1 }, bound := addBinding lane 1 k.bound }))
        (st.tslot.getD 64) (some { t with bound := addBinding lane 0 t.bound }) := by
  unfold bindStep at h
  dsimp only at h
  split at h
  · cases h
  · rename_i k hk
    split_ifs at h with hst hcls
    split at h
    · cases h
    · rename_i al hal
      split_ifs at h with hav
      split at h
      · cases h
      · rename_i t ht
        split_ifs at h with htst htcls hrank
        cases h
        exact ⟨k, al, t, hk, hal, by simpa using hav, ht, by simpa using hcls, by simpa using htcls, rfl⟩

/-- R2: a LOAD step's key slot is not its transport slot. -/
theorem bindStep_apart {st : Step} {a : Table 64 Slot} {k t : SlotRec} (hk : look a none (st.slot.getD 64) = some k)
    (ht : look a none (st.tslot.getD 64) = some t) (hkc : k.cls = st.kind.keyClass) (htc : t.cls = .transport) :
    st.slot.getD 64 ≠ st.tslot.getD 64 := by
  intro he
  rw [he, ht] at hk
  cases hk
  rw [htc] at hkc
  cases hkind : st.kind <;> simp [hkind, StepKind.keyClass] at hkc

theorem bindStep_moves {lane : Nat} {st : Step} {a b : Table 64 Slot} (h : bindStep lane st a = .ok b) (n : Nat) :
    SlotMoves (look a none n) (look b none n) := by
  obtain ⟨k, al, t, hk, hal, hav, ht, hkc, htc, rfl⟩ := bindStep_ok h
  refine (slotMoves_put (i := st.slot.getD 64) (hk ▸ .step _ hal (.reserve al hav)) n).trans (slotMoves_put ?_ n)
  have hne := bindStep_apart hk ht hkc htc
  rw [look_put_ne _ _ _ _ _ hne, ht]
  exact .rebound ..

theorem bindSteps_moves {lane : Nat} {l : List (Nat × Step)} {a b : Table 64 Slot} (h : bindSteps lane l a = .ok b)
    (n : Nat) : SlotMoves (look a none n) (look b none n) := by
  induction l generalizing a with
  | nil => cases h; exact .refl _
  | cons p l ih =>
    unfold bindSteps at h
    split at h
    · cases h
    · rename_i hb
      exact (bindStep_moves hb n).trans (ih h)

theorem bindSlots_moves {n : Nat} {l : List (Nat × Step)} {s t : State} (h : bindSlots n l s = .ok t) :
    s.keys.Moves t.keys := by
  obtain ⟨slots, hb, rfl⟩ := bindSlots_ok h
  exact ⟨rfl, bindSteps_moves hb⟩

theorem deliveryStart_moves (lane slot : Nat) (s : State) : s.keys.Moves (deliveryStart lane slot s).keys := by
  unfold deliveryStart
  split
  · rename_i r hr
    split
    · rename_i al _ hal
      exact ⟨rfl, slotMoves_put ((show look s.keys.slots none slot = some r from hr) ▸ .step _ hal (.spend al))⟩
    · exact .refl _
  · exact .refl _

theorem releaseSlot_moves (lane : Nat) (x : Slot) : SlotMoves x (releaseSlot lane x) := by
  cases x with
  | none => exact .empty
  | some r =>
    cases h : r.allowance with
    | none => simpa [releaseSlot, h] using SlotMoves.bare r _ h
    | some al => simpa [releaseSlot, h] using SlotMoves.step _ h (.giveBack al _)

theorem releaseLane_moves (lane : Nat) (s : State) : s.keys.Moves (releaseLane lane s).keys :=
  ⟨rfl, fun n => by
    rw [show look (releaseLane lane s).keys.slots none n = _ from look_map s.keys.slots (releaseSlot lane) none n]
    exact releaseSlot_moves ..⟩

/-! ## The Key Store through the lanes' work -/

theorem startDelivery_moves (n : Nat) (s : State) : s.keys.Moves (startDelivery n s).keys := by
  unfold startDelivery
  split
  · exact .refl _
  · rename_i d _
    have := deliveryStart_moves n d.slot (s.modDelivery n fun d => { d with phase := .delivering })
    rw [modDelivery_keys] at this
    dsimp only
    split <;> simpa using this

theorem transmitStart_moves (n : Nat) (f : OutFrame) (s : State) : s.keys.Moves (transmitStart n f s).keys := by
  unfold transmitStart
  dsimp only
  split
  · exact .refl _
  · split
    · exact .refl _
    · split
      · exact startDelivery_moves n (State.modCtx _ n _)
      · exact .refl _

theorem handFrame_moves (n : Nat) (k : RequestKind) (b : Text) (s : State) : s.keys.Moves (handFrame n k b s).keys := by
  unfold handFrame
  split
  · exact .refl _
  · dsimp only
    split
    · exact transmitStart_moves n _ (State.modLine _ n _)
    · exact .refl _

theorem takeOutput_moves (r : LaneRequest) (n : Nat) (i : CipherInput) (s : State) :
    s.keys.Moves (takeOutput r n i s).1.keys := by
  unfold takeOutput
  split
  · exact .refl _
  · split
    · exact .refl _
    · split
      · exact .refl _
      · split
        · exact .of_eq (by simp)
        · exact .of_eq (by simp)
        · exact handFrame_moves n _ _ (State.modCtx _ n _)

theorem bindKeys_moves (n : Nat) (l : List Step) (old : List Delivery) (s : State) :
    s.keys.Moves (bindKeys n l old s).1.keys := by
  unfold bindKeys
  split
  · exact .refl _
  · rename_i hb
    have h1 := bindSlots_moves hb
    dsimp only
    split
    · simpa using h1
    · rename_i hr
      rw [syncOpen_keys, State.modCtx_keys, reserveIssue_keys hr]
      simpa using h1

theorem routeStep_moves (n : Nat) (c : RunContext) (s : State) : s.keys.Moves (routeStep n c s).1.keys := by
  unfold routeStep
  split
  · exact .refl _
  · split
    · exact .refl _
    · exact .refl _
    · rename_i p _ _ _ v s1 hv
      dsimp only
      have h := bindKeys_moves n v.steps c.deliveries
        (s1.modCtx n fun c => { c with routed := some (p, v.number) })
      rw [State.modCtx_keys, bindVersion_keys hv] at h
      split <;> rename_i hb <;> rw [hb] at h <;> exact h

theorem beginStep_moves (n : Nat) (s : State) : s.keys.Moves (beginStep n s).1.keys := by
  unfold beginStep
  dsimp only
  split
  · exact .refl _
  · split
    · exact .refl _
    · split
      · exact .of_eq (by simp)
      · exact .refl _
      · exact routeStep_moves n _ (State.modCtx _ n _)
      · exact .of_eq (by simp)
      · exact .of_eq (by simp)
      all_goals exact handFrame_moves n _ _ (State.modCtx _ n _)

theorem proceed_moves (k n : Nat) (r : State × StepEnd) : r.1.keys.Moves (proceed k n r).1.keys := by
  induction k generalizing r with
  | zero => exact .refl _
  | succ k ih =>
    obtain ⟨s, e⟩ := r
    cases e with
    | wait => exact .refl _
    | fin o a => exact .refl _
    | routed =>
      unfold proceed
      split
      · exact .refl _
      · exact (beginStep_moves n s).trans (ih _)
    | done =>
      have hn := nextStep_keys (clearAwait n s) n
      unfold proceed
      split <;> rename_i h <;> rw [h, clearAwait_keys] at hn
      · exact .of_eq hn
      · split
        · exact .of_eq hn
        · exact (KeyStore.Moves.of_eq hn).trans ((beginStep_moves n _).trans (ih _))

theorem startRun_moves (n : Nat) (q : RunRequest) (s : State) : s.keys.Moves (startRun n q s).1.keys := by
  unfold startRun
  dsimp only
  split
  · exact .refl _
  · exact .refl _
  · rename_i v s1 hv
    have h := bindKeys_moves n v.steps []
      (syncOpen n (s1.modCtx n fun c => { c with version := some v.number, steps := v.steps }))
    rw [syncOpen_keys, State.modCtx_keys, bindVersion_keys hv, openRun_keys] at h
    split <;> rename_i hb <;> rw [hb] at h
    · exact h
    · exact h.trans ((beginStep_moves n _).trans (proceed_moves ..))

theorem runStart_moves (n : Nat) (s : State) : s.keys.Moves (runStart n s).1.keys := by
  unfold runStart
  split
  · exact .refl _
  · split
    · exact startRun_moves ..
    · exact .of_eq (by simp)

theorem runEnd_moves (n : Nat) (stop : RunStop) (s : State) : s.keys.Moves (runEnd n stop s).keys := by
  unfold runEnd
  split
  · exact .refl _
  · rename_i c _
    have h := releaseLane_moves n (returnAll c.deliveries (stopRun n s)).2
    rw [returnAll_keys, stopRun_keys] at h
    simpa using h

theorem settleRun_moves (k n : Nat) (r : State × Option RunStop) : r.1.keys.Moves (settleRun k n r).keys := by
  induction k generalizing r with
  | zero => exact .refl _
  | succ k ih =>
    obtain ⟨s, o⟩ := r
    cases o with
    | none => exact .refl _
    | some stop => exact (runEnd_moves n stop s).trans ((runStart_moves n _).trans (ih _))

theorem goOn_moves (n : Nat) (r : State × StepEnd) : r.1.keys.Moves (goOn n r).keys :=
  (proceed_moves ..).trans (settleRun_moves ..)
theorem endRun_moves (n : Nat) (o : Outcome) (s : State) : s.keys.Moves (endRun n o s).keys := settleRun_moves ..
theorem startAt_moves (n : Nat) (s : State) : s.keys.Moves (startAt n s).keys :=
  (runStart_moves ..).trans (settleRun_moves ..)

end Sys2Proof.Machine

namespace Sys2Proof.Machine

/-! ## What a request leaves behind, through the reading of its arguments -/

/-- The answered state of a request keeps `Q`. -/
def Ends (Q : State → Prop) (p : Answer × State) : Prop := Q p.2

namespace Ends
variable {Q : State → Prop} {s : State}

theorem refuse (hs : Q s) (c : ErrCode) : Ends Q (refuse c s) := hs

theorem need {α : Type} {a : Arg α} {k : α → Answer × State} (hs : Q s) (hk : ∀ v, Ends Q (k v)) :
    Ends Q (a.need s k) := by
  cases a with
  | val v => exact hk v
  | absent => exact hs
  | malformed => exact hs

theorem num {a : Arg Nat} {d : Nat} {k : Nat → Answer × State} (hs : Q s) (hk : ∀ v, Ends Q (k v)) :
    Ends Q (a.num d s k) := by
  cases a with
  | val v => unfold Arg.num; dsimp only; split; exacts [hk v, hs]
  | absent => exact hs
  | malformed => exact hs

theorem opt {α : Type} {a : Arg α} {k : Option α → Answer × State} (hs : Q s) (hk : ∀ v, Ends Q (k v)) :
    Ends Q (a.opt s k) := by
  cases a with
  | val v => exact hk _
  | absent => exact hk _
  | malformed => exact hs

theorem optNum {a : Arg Nat} {d : Nat} {k : Option Nat → Answer × State} (hs : Q s) (hk : ∀ v, Ends Q (k v)) :
    Ends Q (a.optNum d s k) := by
  cases a with
  | val v => unfold Arg.optNum; dsimp only; split; exacts [hk _, hs]
  | absent => exact hk _
  | malformed => exact hs

theorem below {b n : Nat} {p : Answer × State} (hs : Q s) (hp : n < b → Ends Q p) : Ends Q (below b n s p) := by
  unfold Machine.below; split
  · exact hp ‹_›
  · exact hs

theorem index {a : Arg Nat} {b : Nat} {k : Nat → Answer × State} (hs : Q s) (hk : ∀ n < b, Ends Q (k n)) :
    Ends Q (a.index b s k) := num hs fun n => below hs (hk n)

/-- Either answer of a check. -/
theorem ite {c : Prop} [Decidable c] {p q : Answer × State} (hp : c → Ends Q p) (hq : ¬c → Ends Q q) :
    Ends Q (if c then p else q) := by
  split
  · exact hp ‹_›
  · exact hq ‹_›

end Ends

/-! ## From the blocks to the step

A law of the state that the ports' own fields do not enter is kept by every step once each block keeps it. -/

/-- What is asked of each block: that it keeps `P`. -/
structure Kept (P : State → Prop) : Prop where
  link (s : State) (k : LinkPort) : P s → P { s with link := k }
  panel (s : State) (k : PanelPort) : P s → P { s with panel := k }
  pending (s : State) (q : List Instr) : P s → P { s with pending := q }
  dualTimer (s : State) (t : Option Nat) : P s → P { s with auth := { s.auth with dualTimer := t } }
  serveRuns (i : Instr) (s : State) : P s → P (serveRuns i s)
  panelAnswer (l : PanelLine) (s : State) : P s → P (panelAnswer l s).2
  dualExpiry (s : State) : P s → P (dualExpiry s)
  scrubExpiry (s : State) : P s → P (scrubExpiry s)
  cipherComplete (b : Bool) (s : State) : P s → P (cipherComplete b s)
  beginWaiting (n : Nat) (s : State) : P s → P (beginWaiting n s)
  transmitEnd (n : Nat) (s : State) : P s → P (transmitEnd n s)
  benchFrame (n : Nat) (k : Byte) (b : Text) (c : BitVec 16) (x : Bool) (s : State) : P s → P (benchFrame n k b c x s)
  overlongHeader (n : Nat) (s : State) : P s → P (overlongHeader n s)
  benchCharacter (n : Nat) (c : Byte) (p x : Bool) (s : State) : P s → P (benchCharacter n c p x s)
  gapExpiry (n : Nat) (s : State) : P s → P (gapExpiry n s)
  timerExpiry (n : Nat) (s : State) : P s → P (timerExpiry n s)
  contactChange (n : Nat) (b : Bool) (s : State) : P s → P (contactChange n b s)
  settleExpiry (n : Nat) (s : State) : P s → P (settleExpiry n s)
  retryReservation (n : Nat) (s : State) : P s → P (retryReservation n s)
  tamperEvent (s : State) : P s → P (tamperEvent s)
  tamperPowerOff (s : State) : P s → P (tamperPowerOff s)
  powerOn (s : State) : P s → P (powerOn s)
  startUpAfterRestart (s : State) : P s → P (startUpAfterRestart s)
  powerLoss (s : State) : P s → P (powerLoss s)
  selfTestComplete (a b c d : Bool) (s : State) : P s → P (selfTestComplete a b c d s)

/-- R38: the restart of the dual window timer writes the timer alone. -/
theorem restartDual_keeps {P : State → Prop} (ha : ∀ s t, P s → P { s with auth := { s.auth with dualTimer := t } })
    {s : State} (hs : P s) : P (restartDual s) := by
  rw [restartDual_eq]; exact ha _ _ hs

/-- Table 10-1, steps 4, 7 and 8. -/
theorem request_keeps {P : State → Prop} (hl : ∀ s k, P s → P { s with link := k })
    (ha : ∀ s t, P s → P { s with auth := { s.auth with dualTimer := t } }) {lvl : Level} {tag : Text} {b : Bool}
    {h : State → Answer × State} (hh : ∀ s, P s → Ends P (h s)) {s : State} (hs : P s) :
    P (request lvl tag b h s) := by
  unfold request
  split
  · exact hl _ _ hs
  · split
    · exact hl _ _ hs
    · cases lvl with
      | operator => exact hl _ _ (hh _ hs)
      | custodian => exact hl _ _ (hh _ (restartDual_keeps ha hs))

namespace Kept
variable {P : State → Prop} (k : Kept P) {s : State}
include k

theorem handleLine (l : LinkLine) (hs : P s) : P (handleLine l s) := by
  cases l with
  | request i => exact k.serveRuns i s hs
  | refused w =>
    cases w with
    | empty => exact hs
    | _ => exact k.link _ _ hs

theorem lineReady (l : LinkLine) (hs : P s) : P (lineReady l s) := by
  unfold Machine.lineReady; split
  · exact k.link _ _ hs
  · exact k.handleLine l (k.link _ _ hs)

theorem lineEnds (l : LinkLine) (hs : P s) : P (lineEnds l s) := by
  unfold Machine.lineEnds; split
  · exact hs
  · split
    · exact k.link _ _ hs
    · exact k.lineReady l hs
  · exact k.lineReady _ hs
  · exact k.lineReady _ hs
  · exact k.link _ _ hs

theorem linkCharacter (c : Byte) (hs : P s) : P (linkCharacter c s) := by
  unfold Machine.linkCharacter; split
  · exact hs
  · split
    · exact k.lineEnds _ hs
    · unfold collectLink; dsimp only; split <;> exact k.link _ _ hs
  · split
    · exact k.lineEnds _ hs
    · exact hs
  · split
    · exact k.lineEnds _ hs
    · exact hs
  · exact k.link _ _ hs

theorem linkSent (hs : P s) : P (linkSent s) := by
  unfold Machine.linkSent; split
  · exact hs
  · have h1 : P (pump { s with link := { s.link with sending := none } }) := k.link _ _ (k.link _ _ hs)
    dsimp only
    split
    · unfold handleHeld; split
      · exact k.handleLine _ (k.link _ _ h1)
      · exact h1
    · exact h1

theorem handlePanel (l : PanelLine) (hs : P s) : P (handlePanel l s) := by
  have h1 := k.panelAnswer l s hs
  unfold Machine.handlePanel panelServe
  dsimp only
  split
  · exact k.panel _ _ (restartDual_keeps k.dualTimer h1)
  · exact k.panel _ _ h1

theorem panelLineEnds (l : PanelLine) (hs : P s) : P (panelLineEnds l s) := by
  unfold Machine.panelLineEnds; split
  · exact hs
  · unfold panelEnds; dsimp only; split
    · exact k.panel _ _ hs
    · split
      · exact k.panel _ _ (k.panel _ _ hs)
      · exact k.handlePanel _ (k.panel _ _ hs)

theorem panelCharacter (c : Byte) (hs : P s) : P (panelCharacter c s) := by
  unfold Machine.panelCharacter; split
  · exact hs
  · split
    · exact k.panelLineEnds _ hs
    · exact k.panel _ _ hs

theorem panelReplySent (hs : P s) : P (panelReplySent s) := by
  unfold Machine.panelReplySent; split
  · split
    · unfold panelHeld; split
      · exact k.panel _ _ hs
      · exact k.handlePanel _ (k.panel _ _ (k.panel _ _ hs))
    · exact hs
  · exact hs

theorem panelMessageSent (hs : P s) : P (panelMessageSent s) := by
  unfold Machine.panelMessageSent; split
  · split
    · exact hs
    · exact k.panel _ _ hs
  · exact hs

/-- What the transmitter takes at a command's end changes the Link Port alone. -/
theorem finish {u t : State} (hs : P u) (h : finish u = .next t) : P t := by
  cases h; exact k.link _ _ hs

/-- Every command keeps what every block keeps. -/
theorem exec (c : Instr) {t : State} (hs : P s) (h : exec c s = .next t) : P t := by
  cases hr : requestOf c with
  | some q => exact k.finish (k.lineEnds (.request c) hs) ((exec_request hr s).symm.trans h)
  | none =>
    cases c <;> simp only [requestOf, reduceCtorEq] at hr
    case linkLineRefused w => exact k.finish (k.lineEnds _ hs) h
    case linkTransmitEnd => exact k.finish (k.linkSent hs) h
    case linkCharacterReceived c => exact k.finish (k.linkCharacter c hs) h
    case panelReplySent => exact k.finish (k.panelReplySent hs) h
    case panelMessageSent => exact k.finish (k.panelMessageSent hs) h
    case panelCharacterReceived c => exact k.finish (k.panelCharacter c hs) h
    case dualWindowExpiry => exact k.finish (k.dualExpiry s hs) h
    case scrubTimerExpiry => exact k.finish (k.scrubExpiry s hs) h
    case cipherOperationComplete b => exact k.finish (k.cipherComplete b s hs) h
    case transmitStart n => exact k.finish (k.beginWaiting n s hs) h
    case transmitEnd n => exact k.finish (k.transmitEnd n s hs) h
    case benchFrameReceived => exact k.finish (k.benchFrame _ _ _ _ _ s hs) h
    case bodyLengthOverlong n => exact k.finish (k.overlongHeader n s hs) h
    case benchCharacterReceived => exact k.finish (k.benchCharacter _ _ _ _ s hs) h
    case gapTimerExpiry n => exact k.finish (k.gapExpiry n s hs) h
    case stepTimerExpiry n => exact k.finish (k.timerExpiry n s hs) h
    case cradleContactChange n b => exact k.finish (k.contactChange n b s hs) h
    case settleTimerExpiry n => exact k.finish (k.settleExpiry n s hs) h
    case reservationRetry n => exact k.finish (k.retryReservation n s hs) h
    case tamperEvent => exact k.finish (k.tamperEvent s hs) h
    case tamperPowerOff => exact k.finish (k.tamperPowerOff s hs) h
    case powerOn => exact k.finish (k.powerOn s hs) h
    case startUpAfterRestart => exact k.finish (k.startUpAfterRestart s hs) h
    case powerLoss => exact k.finish (k.powerLoss s hs) h
    case selfTestComplete => exact k.finish (k.selfTestComplete _ _ _ _ s hs) h
    -- the panel's commands
    all_goals exact k.finish (k.panelLineEnds _ hs) h

/-- Every step keeps what every block keeps. -/
theorem step {t : State} (hs : P s) (h : step s = .next t) : P t := by
  unfold Machine.step at h
  split at h
  · cases h; exact hs
  · exact k.exec _ (k.pending _ _ hs) h

end Kept

end Sys2Proof.Machine

namespace Sys2Proof.Machine

/-! ## The Key Store through the requests of the other blocks -/

/-- A request that leaves the Key Store as it is. -/
abbrev EndsKeys (s : State) : Answer × State → Prop := Ends fun t => t.keys = s.keys

section requests
variable (s : State)

@[simp] theorem setCustodian_keys (id : Nat) (c : Option Custodian) : (s.setCustodian id c).keys = s.keys := by
  unfold State.setCustodian; split <;> rfl

theorem enrolCustodian_keys (id : Arg Nat) (g : Arg Group) (l : Arg Text) : EndsKeys s (enrolCustodian id g l s) := by
  have h : (restartDual s).keys = s.keys := restartDual_keys
  refine .num h fun n => .ite (fun _ => h) fun _ => .need h fun g => .opt h fun l => .ite (fun _ => h) fun _ => ?_
  split
  · exact h
  · simp [Ends]

theorem removeCustodian_keys (id : Arg Nat) : EndsKeys s (removeCustodian id s) := by
  refine .num rfl fun n => .ite (fun _ => rfl) fun _ => ?_
  split
  · rfl
  · exact .ite (fun _ => rfl) fun _ => by simp [Ends]

theorem unlockCustodian_keys (id : Arg Nat) : EndsKeys s (unlockCustodian id s) := by
  refine .num rfl fun n => .ite (fun _ => rfl) fun _ => ?_
  split
  · rfl
  · exact .ite (fun _ => by simp [Ends]) fun _ => rfl

theorem setDualWindow_keys (v : Arg Nat) : EndsKeys s (setDualWindow v s) := .num rfl fun _ => restartDual_keys

theorem setParityPolicy_keys (p : Arg Policy) : EndsKeys s (setParityPolicy p s) := .need rfl fun _ => rfl

@[simp] theorem warnAfterThreshold_keys (n : Nat) (a : Account) : (warnAfterThreshold n a s).2.keys = s.keys := by
  unfold warnAfterThreshold; split
  · rfl
  · split <;> simp

theorem openIssue_keys (n : Arg Nat) (p : Arg (BitVec 24)) (f l st th : Arg Nat) :
    EndsKeys s (openIssue n p f l st th s) := by
  refine .num rfl fun n => .need rfl fun p => .num rfl fun f => .num rfl fun l => .optNum rfl fun st =>
    .optNum rfl fun th => .below rfl fun _ => .ite (fun _ => rfl) fun _ => ?_
  split
  · rfl
  · exact .ite (fun _ => rfl) fun _ => .ite (fun _ => rfl) fun _ => warnAfterThreshold_keys ..

theorem extendIssue_keys (n l : Arg Nat) : EndsKeys s (extendIssue n l s) := by
  refine .num rfl fun n => .num rfl fun v => .below rfl fun _ => .ite (fun _ => rfl) fun _ => ?_
  split
  · rfl
  · exact .ite (fun _ => rfl) fun _ => rfl

theorem setIssueWarning_keys (n th : Arg Nat) : EndsKeys s (setIssueWarning n th s) := by
  refine .num rfl fun n => .num rfl fun v => .below rfl fun _ => ?_
  split
  · rfl
  · exact warnAfterThreshold_keys ..

theorem acknowledgeTamper_keys : EndsKeys s (acknowledgeTamper s) := .ite (fun _ => rfl) fun _ => rfl
theorem restart_keys : EndsKeys s (restart s) := .ite (fun _ => rfl) fun _ => rfl

theorem editPlanStep_keys (b : Bool) (p k : Arg Nat) (kd : Arg StepKind) (a : StepArgs) (x : Bool) :
    EndsKeys s (editPlanStep b p k kd a x s) :=
  .index rfl fun _ _ => .num rfl fun _ => .need rfl fun _ => .ite (fun _ => rfl) fun _ => .ite (fun _ => rfl) fun _ => rfl

theorem editPlanDelete_keys (p k : Arg Nat) (x : Bool) : EndsKeys s (editPlanDelete p k x s) :=
  .index rfl fun _ _ => .num rfl fun _ => .ite (fun _ => rfl) fun _ => .ite (fun _ => rfl) fun _ => rfl

theorem editPlanLabel_keys (p : Arg Nat) (l : Arg Text) (x : Bool) : EndsKeys s (editPlanLabel p l x s) :=
  .index rfl fun _ _ => .opt rfl fun _ => .ite (fun _ => rfl) fun _ => rfl

theorem discardDraft_keys (p : Arg Nat) : EndsKeys s (discardDraft p s) :=
  .index rfl fun _ _ => .ite (fun _ => rfl) fun _ => rfl

theorem installPlan_keys (p : Arg Nat) : EndsKeys s (installPlan p s) := by
  refine .index rfl fun n _ => ?_
  dsimp only
  split
  · rfl
  · split
    · rfl
    · exact .ite (fun _ => rfl) fun _ => rfl

theorem removePlan_keys (p : Arg Nat) : EndsKeys s (removePlan p s) :=
  .index rfl fun _ _ => .ite (fun _ => rfl) fun _ => .ite (fun _ => rfl) fun _ => rfl

theorem setWindow_keys (a : WindowArgs) (lv : Level) : EndsKeys s (setWindow a lv s) := by
  refine .num rfl fun n => .need rfl fun k => .need rfl fun m => .optNum rfl fun f => .optNum rfl fun p =>
    .opt rfl fun e => .opt rfl fun o => ?_
  split
  · rfl
  · exact .ite (fun _ => rfl) fun _ => .ite (fun _ => rfl) fun _ => .ite (fun _ => rfl) fun _ =>
      .ite (fun _ => rfl) fun _ => rfl

theorem setWindowEnabled_keys (w : Arg Nat) (e : Arg Bool) (x : Bool) (lv : Level) :
    EndsKeys s (setWindowEnabled w e x lv s) := by
  refine .num rfl fun n => .need rfl fun e => .ite (fun _ => rfl) fun _ => .below rfl fun _ => .ite (fun _ => rfl) fun _ => ?_
  split <;> rfl

theorem clearWindow_keys (w : Arg Nat) (lv : Level) : EndsKeys s (clearWindow w lv s) :=
  .index rfl fun _ _ => .ite (fun _ => rfl) fun _ => .ite (fun _ => rfl) fun _ => rfl

theorem setDefaultRoute_keys (r : Arg DefaultRoute) : EndsKeys s (setDefaultRoute r s) := by
  refine .need rfl fun r => ?_
  cases r with
  | reject => rfl
  | plan p => exact .ite (fun _ => rfl) fun _ => .below rfl fun _ => rfl

@[simp] theorem setOnline_keys (n : Nat) (y : Bool) : (setOnline n y s).keys = s.keys := by
  unfold setOnline; dsimp only; split <;> rfl

theorem setLane_keys (n : Arg Nat) (y : Arg Bool) (r : Arg Nat) (p : Arg Parity) : EndsKeys s (setLane n y r p s) := by
  refine .num rfl fun n => .opt rfl fun y => .optNum rfl fun r => .opt rfl fun p => .below rfl fun _ => ?_
  split
  · rfl
  · refine .ite (fun _ => rfl) fun _ => ?_
    dsimp only [Ends]
    split <;> simp

theorem clearCounters_keys (n : Arg Nat) : EndsKeys s (clearCounters n s) := .index rfl fun _ _ => rfl

theorem recordRef_keys (n o : Arg Nat) {k : Nat → Nat → Answer × State} (hk : ∀ a b, EndsKeys s (k a b)) :
    EndsKeys s (recordRef n o s k) :=
  .num rfl fun _ => .num rfl fun _ => .below rfl fun _ => .below rfl fun _ => hk _ _

theorem discardRecord_keys (n o : Arg Nat) : EndsKeys s (discardRecord n o s) := by
  refine recordRef_keys s n o fun a b => ?_
  split
  · rfl
  · exact .ite (fun _ => rfl) fun _ => rfl

/-! The reading requests change nothing. -/

theorem readSlot_reads (n : Arg Nat) : Ends (· = s) (readSlot n s) := .index rfl fun _ _ => rfl
theorem readIssue_reads (n : Arg Nat) : Ends (· = s) (readIssue n s) := .index rfl fun _ _ => rfl
theorem readPlan_reads (n : Arg Nat) : Ends (· = s) (readPlan n s) := .index rfl fun _ _ => rfl
theorem readLane_reads (n : Arg Nat) : Ends (· = s) (readLane n s) := .index rfl fun _ _ => rfl
theorem readWindow_reads (n : Arg Nat) (lv : Level) : Ends (· = s) (readWindow n lv s) := .index rfl fun _ _ => rfl

theorem readPlanStep_reads (p : Arg Nat) (w : Arg Which) (k : Arg Nat) : Ends (· = s) (readPlanStep p w k s) := by
  refine .num rfl fun n => .need rfl fun w => .optNum rfl fun i => .below rfl fun _ => ?_
  dsimp only
  split
  · rfl
  · split
    · rfl
    · split <;> rfl

theorem readRecord_reads : Ends (· = s) (readRecord s) := by unfold readRecord; split <;> rfl

theorem recordRef_reads (n o : Arg Nat) {k : Nat → Nat → Answer × State} (hk : ∀ a b, Ends (· = s) (k a b)) :
    Ends (· = s) (recordRef n o s k) :=
  .num rfl fun _ => .num rfl fun _ => .below rfl fun _ => .below rfl fun _ => hk _ _

theorem readEntry_reads (n o : Arg Nat) (x : Bool) (f : Record → List Item) : Ends (· = s) (readEntry n o x f s) := by
  refine .ite (fun _ => rfl) fun _ => recordRef_reads s n o fun a b => ?_
  split <;> rfl

theorem readRecordDelivery_reads (n o k : Arg Nat) : Ends (· = s) (readRecordDelivery n o k s) := by
  refine .ite (fun _ => rfl) fun _ => recordRef_reads s n o fun a b => ?_
  split
  · rfl
  · refine .num rfl fun k => ?_
    split <;> rfl

end requests

/-- What a request leaves, from what is known of the state it leaves. -/
theorem Ends.imp {Q R : State → Prop} {p : Answer × State} (h : Ends Q p) (hi : ∀ t, Q t → R t) : Ends R p := hi _ h

/-! ## The Key Store through the events of the lanes -/

section
variable (n : Nat) (s : State)

@[simp] theorem takeWait_keys (c : RunContext) (st : Step) : (takeWait n c st s).1.keys = s.keys := by
  unfold takeWait; split
  · rfl
  · simp

@[simp] theorem takeAccept_keys (c : RunContext) (p : Nat) (v : CheckValue) : (takeAccept n c p v s).1.keys = s.keys := by
  unfold takeAccept; split
  · simp
  · split
    · simp
    · split <;> simp

@[simp] theorem takeCheck_keys (c : RunContext) (st : Step) (p : Nat) (v : CheckValue) :
    (takeCheck n c st p v s).1.keys = s.keys := by
  unfold takeCheck; split
  · simp
  · split
    · rfl
    · split <;> simp

@[simp] theorem takeReply_keys (r : BenchReply) : (takeReply n r s).1.keys = s.keys := by
  unfold takeReply
  split
  · rfl
  · split
    · rfl
    · split <;> simp

theorem timerExpiry_moves : s.keys.Moves (timerExpiry n s).keys := by
  unfold timerExpiry
  split
  · dsimp only
    split
    · exact goOn_moves n (clearAwait n s, _)
    · exact goOn_moves n (clearAwait n s, _)
    · exact .refl _
    · split
      · have := goOn_moves n (noteStep n .timeout (clearAwait n s))
        rwa [noteStep_keys] at this
      · have := goOn_moves n (failFrame n .timeout .unanswered none (clearAwait n s))
        rwa [failFrame_keys] at this
  · exact .refl _

theorem terminalArrived_moves : s.keys.Moves (terminalArrived n s).keys := by
  unfold terminalArrived
  split
  · exact .refl _
  · split
    · exact goOn_moves n (s, _)
    · exact .refl _

theorem terminalRemoved_moves : s.keys.Moves (terminalRemoved n s).keys := by
  unfold terminalRemoved
  dsimp only
  split
  · exact .refl _
  · split
    · exact .refl _
    · have := endRun_moves n .removed (endDelivery n .unanswered none (s.modLine n fun l => { l with served := false }))
      rwa [endDelivery_keys] at this

theorem settleExpiry_moves : s.keys.Moves (settleExpiry n s).keys := by
  unfold settleExpiry
  split
  · exact .refl _
  · dsimp only
    split
    · exact terminalArrived_moves n (s.modLine n _)
    · exact terminalRemoved_moves n (s.modLine n _)

theorem frameArrived_moves (k : Byte) (b : Text) (c : BitVec 16) (x : Bool) :
    s.keys.Moves (frameArrived n k b c x s).keys := by
  unfold frameArrived
  split
  · exact .refl _
  · split
    · exact .refl _
    · have := goOn_moves n (takeReply n (decodeReply k b) (s.modLine n BenchLine.hunt))
      rwa [takeReply_keys] at this

@[simp] theorem overlongHeader_keys : (overlongHeader n s).keys = s.keys := by
  unfold overlongHeader; split <;> rfl

theorem benchFrame_moves (k : Byte) (b : Text) (c : BitVec 16) (x : Bool) :
    s.keys.Moves (benchFrame n k b c x s).keys := by
  unfold benchFrame
  split
  · exact .refl _
  · split
    · exact .of_eq (by simp)
    · exact frameArrived_moves ..

theorem benchCharacter_moves (c : Byte) (p x : Bool) : s.keys.Moves (benchCharacter n c p x s).keys := by
  unfold benchCharacter
  dsimp only
  split
  · exact .refl _
  · split <;> exact .refl _
  · unfold collectChar
    dsimp only
    split
    · exact .of_eq (by simp)
    · split
      · exact frameArrived_moves ..
      · exact .refl _

theorem beginWaiting_moves : s.keys.Moves (beginWaiting n s).keys := by
  unfold beginWaiting
  split
  · exact transmitStart_moves ..
  · exact .refl _

@[simp] theorem loadStepTimer_keys (f : OutFrame) : (loadStepTimer n f s).keys = s.keys := by
  unfold loadStepTimer; split
  · rfl
  · split <;> rfl

theorem transmitEnd_moves : s.keys.Moves (transmitEnd n s).keys := by
  unfold transmitEnd
  split
  · exact .refl _
  · rename_i f _ _ _ _
    dsimp only
    have := beginWaiting_moves n (loadStepTimer n f (s.modLine n fun l =>
      { l with tx := .idle, rx := if (s.laneAt n).state ≠ .offline then .hunting else .closed }))
    rw [loadStepTimer_keys] at this
    simpa using this

@[simp] theorem gapExpiry_keys : (gapExpiry n s).keys = s.keys := by unfold gapExpiry; split <;> rfl

@[simp] theorem contactChange_keys (b : Bool) : (contactChange n b s).keys = s.keys := by
  unfold contactChange; split
  · rfl
  · split <;> rfl

theorem retryReservation_moves : s.keys.Moves (retryReservation n s).keys := by
  unfold retryReservation
  split
  · exact startAt_moves n { s with records := _ }
  · exact .refl _

theorem tamperLane_moves : s.keys.Moves (tamperLane n s).keys := by
  unfold tamperLane
  split
  · have := runEnd_moves n (.tamper, none) (endDelivery n .unanswered none s)
    rwa [endDelivery_keys] at this
  · exact .refl _
  · exact .refl _
  · exact .refl _

@[simp] theorem tamperLine_keys : (tamperLine n s).keys = s.keys := rfl

/-! ## The Key Store through the lanes' requests -/

theorem abortRun_moves : s.keys.Moves (abortRun n s).2.keys := by
  unfold abortRun
  split
  · exact .refl _
  · split
    · exact endRun_moves n _ s
    · exact .refl _

theorem abortHeld_moves : s.keys.Moves (abortHeld n s).keys := by
  have h := startAt_moves n ((leaveWaiting n s).modLane n fun l => { l with queue := l.queue.tail })
  rw [State.modLane_keys, leaveWaiting_keys] at h
  unfold abortHeld
  dsimp only
  split
  · exact .refl _
  · exact h

end

theorem abortLane_moves (n : Arg Nat) (f : Arg Unit) (s : State) :
    Ends (fun t => s.keys.Moves t.keys) (abortLane n f s) := by
  refine .num (.refl _) fun n => .opt (.refl _) fun fl => .below (.refl _) fun _ => ?_
  dsimp only [Ends]
  split
  · exact .refl _
  · exact .refl _
  · exact abortHeld_moves n (s.modLane n _)
  · exact abortRun_moves n (s.modLane n _)

theorem queueRun_moves (n p c t : Arg Nat) (s : State) :
    Ends (fun t => s.keys.Moves t.keys) (queueRun n p c t s) := by
  refine .num (.refl _) fun n => .num (.refl _) fun p => .optNum (.refl _) fun c => .optNum (.refl _) fun t =>
    .ite (fun _ => .refl _) fun _ => .ite (fun _ => .refl _) fun _ => .ite (fun _ => .refl _) fun _ =>
    .ite (fun _ => .refl _) fun _ => ?_
  dsimp only [Ends]
  split
  · exact startAt_moves n (s.modLane n _)
  · exact .refl _

/-! ## The Key Store through the Cipher Unit and the custodians -/

theorem serveWaiting_keys (k : Nat) (s : State) : (serveWaiting k s).1.keys = s.keys := by
  induction k generalizing s with
  | zero => rfl
  | succ k ih =>
    unfold serveWaiting
    split
    · split
      · rfl
      · rename_i q req _
        have h := serveRequester_keys s q req
        split <;> rename_i hs <;> rw [hs] at h
        · exact h
        · rw [ih]; exact h
        · dsimp only
          split <;> (rw [ih]; exact h)
    · rfl

theorem keyFaults_moves (l : List FaultNote) (s : State) : s.keys.Moves (keyFaults l s).keys := by
  induction l generalizing s with
  | nil => exact .refl _
  | cons f l ih =>
    obtain ⟨q, o, n⟩ := f
    unfold keyFaults
    refine .trans ?_ (ih _)
    split
    · exact endRun_moves ..
    · exact .refl _

theorem unitFree_moves (s : State) : s.keys.Moves (unitFree s).keys := by
  have := keyFaults_moves (serveWaiting 10 { s with cipher := { s.cipher with executing := none } }).2
    (serveWaiting 10 { s with cipher := { s.cipher with executing := none } }).1
  rw [serveWaiting_keys] at this
  exact this

@[simp] theorem discardHeld_keys (id : Nat) (s : State) : (discardHeld id s).keys = s.keys := by
  unfold discardHeld
  split
  · rfl
  · split
    · rfl
    · split
      · rfl
      · dsimp only
        rw [raiseMessage_keys, State.setAsm_keys]
        split <;> split <;> rfl

@[simp] theorem dropSession_keys (id : Nat) (s : State) : (dropSession id s).keys = s.keys := by simp [dropSession]

end Sys2Proof.Machine

namespace Sys2Proof.Machine

/-! ## The budget law (R1, R9): O9 -/

/-- R9: a finite budget is at most 1,000,000, and the reserved count at most the budget. -/
def AllowanceLawful (al : Allowance) : Prop :=
  ∀ m, al.budget = .count m → al.reserved ≤ m ∧ m ≤ Config.budgetMax

/-- The law of one slot. -/
def SlotLawful (x : Slot) : Prop := ∀ r ∈ x, ∀ al ∈ r.allowance, AllowanceLawful al

theorem budgetLawful_iff (s : State) : BudgetLawful s ↔ ∀ n, SlotLawful (s.slotAt n) :=
  ⟨fun h n r hr al hal m hm => h n r al m hr hal hm, fun h n r al m hr hal hm => h n r hr al hal m hm⟩

theorem SlotLawful.none : SlotLawful none := nofun

/-- A slot with the allowance of a lawful one is lawful. -/
theorem SlotLawful.congr {r r' : SlotRec} (h : SlotLawful (some r)) (ha : r'.allowance = r.allowance) :
    SlotLawful (some r') := by
  intro _ hr al hal
  cases hr
  exact h r rfl al (ha ▸ hal)

theorem allowanceStep_lawful {al al' : Allowance} (hs : AllowanceStep al al') (h : AllowanceLawful al) :
    AllowanceLawful al' := by
  intro m hm
  cases hs with
  | reserve hav =>
    have hlt : al.reserved < m := by simpa [Allowance.available, show al.budget = .count m from hm] using hav
    exact ⟨hlt, (h m hm).2⟩
  | spend =>
    cases hb : al.budget with
    | unlimited => simp [hb, Budget.spend] at hm
    | count k =>
      obtain ⟨h1, h2⟩ := h k hb
      have hk : k - 1 = m := by simpa [hb, Budget.spend] using hm
      exact ⟨by dsimp only; omega, by omega⟩
  | giveBack held =>
    obtain ⟨h1, h2⟩ := h m hm
    exact ⟨by dsimp only; omega, h2⟩

theorem allowanceMoves_lawful {al al' : Allowance} (hm : AllowanceMoves al al') (h : AllowanceLawful al) :
    AllowanceLawful al' := by
  induction hm with
  | refl => exact h
  | tail _ hs ih => exact allowanceStep_lawful hs ih

theorem slotMoves_lawful {x y : Slot} (hm : SlotMoves x y) (h : SlotLawful x) : SlotLawful y := by
  cases hm with
  | empty => exact h
  | bare r b ha => exact h.congr rfl
  | moved r b al al' ha hal =>
    intro _ hr _ hal'
    cases hr; cases hal'
    exact allowanceMoves_lawful hal (h r rfl al ha)

section
variable {s : State}

theorem budgetLawful_of_keys {t : State} (hk : t.keys = s.keys) (h : BudgetLawful s) : BudgetLawful t := by
  simpa [BudgetLawful, State.slotAt, hk] using h

/-- The lanes' work keeps the law. -/
theorem budgetLawful_of_moves {t : State} (hm : s.keys.Moves t.keys) (h : BudgetLawful s) : BudgetLawful t :=
  (budgetLawful_iff t).2 fun n => slotMoves_lawful (hm.2 n) ((budgetLawful_iff s).1 h n)

theorem budgetLawful_setSlot {n : Nat} {x : Slot} (h : BudgetLawful s) (hx : SlotLawful x) :
    BudgetLawful (s.setSlot n x) := by
  refine (budgetLawful_iff _).2 fun m => ?_
  rw [slotAt_setSlot]
  split
  · exact hx
  · exact (budgetLawful_iff s).1 h m

/-- A change of a slot that is no change of its allowance. -/
theorem budgetLawful_setSlot_same {n : Nat} {r r' : SlotRec} (h : BudgetLawful s) (hr : s.slotAt n = some r)
    (ha : r'.allowance = r.allowance) : BudgetLawful (s.setSlot n (some r')) :=
  budgetLawful_setSlot h ((hr ▸ (budgetLawful_iff s).1 h n : SlotLawful (some r)).congr ha)

theorem budgetLawful_emptySlot {n : Nat} (h : BudgetLawful s) : BudgetLawful (s.emptySlot n) :=
  budgetLawful_of_keys rfl (budgetLawful_setSlot (n := n) h .none)

/-- A table of which every slot is EMPTY, or has the allowance of the slot that stood there with its reserved count
lowered. -/
theorem budgetLawful_mapSlots {f : Slot → Slot} (hn : f none = none) (hf : ∀ x, SlotLawful x → SlotLawful (f x))
    {t : State} (ht : t.keys.slots = s.keys.slots.map f) (h : BudgetLawful s) : BudgetLawful t := by
  refine (budgetLawful_iff t).2 fun n => ?_
  have : t.slotAt n = f (s.slotAt n) := by
    rw [State.slotAt, ht, ← hn]
    exact look_map ..
  rw [this]
  exact hf _ ((budgetLawful_iff s).1 h n)

/-! ### The requests of the Key Store -/

theorem suspendSlot_lawful (n : Arg Nat) (h : BudgetLawful s) : Ends BudgetLawful (suspendSlot n s) := by
  refine .index h fun n _ => ?_
  split
  · rename_i hr
    exact .ite (fun _ => budgetLawful_setSlot_same h hr rfl) fun _ => h
  · exact h

theorem resumeSlot_lawful (n : Arg Nat) (h : BudgetLawful s) : Ends BudgetLawful (resumeSlot n s) := by
  refine .index h fun n _ => ?_
  split
  · rename_i hr
    exact .ite (fun _ => budgetLawful_setSlot_same h hr rfl) fun _ => h
  · exact h

theorem eraseSlot_lawful (n : Arg Nat) (h : BudgetLawful s) : Ends BudgetLawful (eraseSlot n s) := by
  refine .index h fun n _ => ?_
  split
  · exact .ite (fun _ => h) fun _ => .ite (fun _ => h) fun _ => budgetLawful_emptySlot h
  · exact h

/-- R10: the budget that passes the refusals is at most 1,000,000 and at least the reserved count. -/
theorem setBudget_lawful (n : Arg Nat) (b : Arg Budget) (h : BudgetLawful s) : Ends BudgetLawful (setBudget n b s) := by
  refine .num h fun n => .need h fun v => .ite (fun _ => h) fun _ => .below h fun _ => .ite (fun _ => h) fun hbig => ?_
  split
  · rename_i r hr
    split
    · rename_i al hal
      refine .ite (fun _ => h) fun _ => .ite (fun _ => h) fun hshort => budgetLawful_setSlot h ?_
      intro _ hr' al' hal' m hm
      cases hr'; cases hal'
      obtain rfl : v = .count m := hm
      exact ⟨by simpa using hshort, by simpa using hbig⟩
    · exact h
  · exact h

theorem setScrub_lawful (v : Arg Nat) (h : BudgetLawful s) : Ends BudgetLawful (setScrub v s) :=
  .num h fun _ => h

/-- R42: an assembly's slot begins with a budget in range and no reservation. -/
theorem assembleBegin_lawful (a : AssembleArgs) (h : BudgetLawful s) : Ends BudgetLawful (assembleBegin a s) := by
  refine .num h fun slot => .need h fun cls => .need h fun fam => .num h fun len => .num h fun parts => .opt h fun cv =>
    .opt h fun lab => .optNum h fun kver => .opt h fun budget => .ite (fun _ => h) fun _ => .ite (fun _ => h) fun hr => ?_
  split
  · exact h
  · refine .ite (fun _ => h) fun _ => .ite (fun _ => h) fun _ => .ite (fun _ => h) fun _ => ?_
    refine budgetLawful_of_keys (s := s.setSlot slot _) rfl (budgetLawful_setSlot h ?_)
    intro _ hr' al' hal' m hm
    cases hr'
    obtain ⟨b, rfl, rfl⟩ := Option.map_eq_some_iff.1 hal'
    obtain rfl : b = .count m := hm
    simp only [assembleRange, Bool.not_eq_true', Bool.not_eq_false, Bool.and_eq_true, decide_eq_true_eq] at hr
    exact ⟨Nat.zero_le m, hr.2⟩

theorem cancelAssembly_lawful (cause : String) (h : BudgetLawful s) : BudgetLawful (cancelAssembly cause s) := by
  unfold cancelAssembly
  split
  · exact h
  · rename_i a _
    have h1 : BudgetLawful (withdraw reqAssembler s) := budgetLawful_of_keys rfl h
    exact budgetLawful_of_keys (by simp) (budgetLawful_emptySlot (n := a.slot) h1)

theorem assembleCancel_lawful (h : BudgetLawful s) : Ends BudgetLawful (assembleCancel s) := by
  unfold assembleCancel
  split
  · exact h
  · exact cancelAssembly_lawful _ h

/-- R175: every request. -/
theorem serveRuns_lawful (i : Instr) (h : BudgetLawful s) : BudgetLawful (serveRuns i s) := by
  have req {lvl tag b f} (hf : ∀ u, BudgetLawful u → Ends BudgetLawful (f u)) :
      BudgetLawful (request lvl tag b f s) := request_keeps (h := f) (fun _ _ h => h) (fun _ _ h => h) hf h
  have keys {lvl tag b f} (hf : ∀ u, EndsKeys u (f u)) : BudgetLawful (request lvl tag b f s) :=
    req fun u hu => (hf u).imp fun _ ht => budgetLawful_of_keys ht hu
  have reads {lvl tag b f} (hf : ∀ u, Ends (· = u) (f u)) : BudgetLawful (request lvl tag b f s) :=
    req fun u hu => (hf u).imp fun _ ht => ht ▸ hu
  have moves {lvl tag b f} (hf : ∀ u, Ends (fun t => u.keys.Moves t.keys) (f u)) :
      BudgetLawful (request lvl tag b f s) := req fun u hu => (hf u).imp (R := BudgetLawful) fun _ ht => budgetLawful_of_moves ht hu
  cases i
  case suspendSlot t n => exact req fun _ => suspendSlot_lawful n
  case resumeSlot t n => exact req fun _ => resumeSlot_lawful n
  case eraseSlot t n => exact req fun _ => eraseSlot_lawful n
  case setBudget t n b => exact req fun _ => setBudget_lawful n b
  case setScrub t v => exact req fun _ => setScrub_lawful v
  case assembleBegin t a => exact req fun _ => assembleBegin_lawful a
  case assembleCancel t => exact req fun _ => assembleCancel_lawful
  case queueRun t n p c g => exact moves (queueRun_moves n p c g)
  case abortLane t n f => exact moves (abortLane_moves n f)
  case status t => exact reads fun _ => rfl
  case listSlots t => exact reads fun _ => rfl
  case readSlot t n => exact reads fun u => readSlot_reads u n
  case readIssue t n => exact reads fun u => readIssue_reads u n
  case readPlan t n => exact reads fun u => readPlan_reads u n
  case readPlanStep t p w k => exact reads fun u => readPlanStep_reads u p w k
  case readWindow t w lv => exact reads fun u => readWindow_reads u w lv
  case readWindowSummary t lv => exact reads fun _ => rfl
  case readLane t n => exact reads fun u => readLane_reads u n
  case readRecord t => exact reads readRecord_reads
  case readRecordEntry t n o x => exact reads fun u => readEntry_reads u n o x _
  case readRecordDelivery t n o k => exact reads fun u => readRecordDelivery_reads u n o k
  case readRecordVoided t n o x => exact reads fun u => readEntry_reads u n o x _
  case readRecordNotes t n o x => exact reads fun u => readEntry_reads u n o x _
  case restart t => exact keys restart_keys
  case enrolCustodian t n g l => exact keys fun u => enrolCustodian_keys u n g l
  case removeCustodian t n => exact keys fun u => removeCustodian_keys u n
  case unlockCustodian t n => exact keys fun u => unlockCustodian_keys u n
  case setDualWindow t v => exact keys fun u => setDualWindow_keys u v
  case setParityPolicy t p => exact keys fun u => setParityPolicy_keys u p
  case openIssue t n p f l st th => exact keys fun u => openIssue_keys u n p f l st th
  case extendIssue t n l => exact keys fun u => extendIssue_keys u n l
  case setIssueWarning t n th => exact keys fun u => setIssueWarning_keys u n th
  case acknowledgeTamper t => exact keys acknowledgeTamper_keys
  case editPlanSet t p k kd a x => exact keys fun u => editPlanStep_keys u false p k kd a x
  case editPlanInsert t p k kd a x => exact keys fun u => editPlanStep_keys u true p k kd a x
  case editPlanDelete t p k x => exact keys fun u => editPlanDelete_keys u p k x
  case editPlanLabel t p l x => exact keys fun u => editPlanLabel_keys u p l x
  case discardDraft t p => exact keys fun u => discardDraft_keys u p
  case installPlan t p => exact keys fun u => installPlan_keys u p
  case removePlan t p => exact keys fun u => removePlan_keys u p
  case setWindow t a lv => exact keys fun u => setWindow_keys u a lv
  case setWindowEnabled t w e x lv => exact keys fun u => setWindowEnabled_keys u w e x lv
  case clearWindow t w lv => exact keys fun u => clearWindow_keys u w lv
  case setDefaultRoute t r => exact keys fun u => setDefaultRoute_keys u r
  case setLane t n o r p => exact keys fun u => setLane_keys u n o r p
  case clearCounters t n => exact keys fun u => clearCounters_keys u n
  case discardRecord t n o => exact keys fun u => discardRecord_keys u n o
  -- no request
  all_goals exact h

/-! ### The custodians, the Cipher Unit and start-up -/

theorem rederive_lawful (cause : String) (h : BudgetLawful s) : BudgetLawful (rederive cause s) := by
  unfold rederive
  dsimp only
  split
  · exact h
  · split
    · exact cancelAssembly_lawful _ (budgetLawful_of_keys (by simp) h)
    · exact budgetLawful_of_keys (by simp) h

theorem dualExpiry_lawful (h : BudgetLawful s) : BudgetLawful (dualExpiry s) := by
  have drop (l : List Nat) : ∀ u : State, BudgetLawful u → BudgetLawful (l.foldl (fun t id => dropSession id t) u) := by
    induction l with
    | nil => exact fun _ => id
    | cons id l ih => exact fun u hu => ih _ (budgetLawful_of_keys (by simp) hu)
  unfold dualExpiry
  split
  · exact h
  · exact rederive_lawful _ (drop _ _ h)

theorem confirmChecks_lawful (id : Nat) {k : Assembly → HeldComponent → PanelAnswer × State} (h : BudgetLawful s)
    (hk : ∀ a c, BudgetLawful (k a c).2) : BudgetLawful (confirmChecks id s k).2 := by
  unfold confirmChecks
  split
  · exact h
  · split
    · exact h
    · split_ifs
      exacts [h, h, h, hk _ _]

/-- Table 2-4: a panel line changes the Key Store by the end of an assembly alone. -/
theorem panelAnswer_lawful (l : PanelLine) (h : BudgetLawful s) : BudgetLawful (panelAnswer l s).2 := by
  unfold panelAnswer
  split
  iterate 3 exact h
  · unfold newcode
    split
    · exact h
    · split
      · exact h
      · split_ifs
        exacts [h, h, budgetLawful_of_keys (by simp) h]
  · unfold logon
    split
    · exact h
    · split
      · exact h
      · split
        · exact h
        · exact h
        · split_ifs
          · exact h
          · exact h
          · exact rederive_lawful _ (budgetLawful_of_keys (by simp) h)
          · unfold wrongPasscode
            split <;> exact budgetLawful_of_keys (by simp) h
  · unfold logoff
    split_ifs
    exacts [h, h, rederive_lawful _ (budgetLawful_of_keys (by simp) h)]
  · exact h
  · unfold component
    split
    · exact h
    · split_ifs
      iterate 7 exact h
      exact budgetLawful_of_keys (by simp) h
  · refine confirmChecks_lawful _ h fun a c => ?_
    dsimp only
    split
    · exact budgetLawful_of_keys (by simp [finishAssembly]) h
    · exact h
  · exact confirmChecks_lawful _ h fun _ _ => h
  · exact h

theorem scrubExpiry_lawful (h : BudgetLawful s) : BudgetLawful (scrubExpiry s) := by
  unfold scrubExpiry
  split
  · exact h
  · dsimp only
    split
    · exact h
    · split
      · exact h
      · exact budgetLawful_of_keys (post_keys ..) h

theorem handOutput_lawful (e : Executing) (b : Bool) (h : BudgetLawful s) : BudgetLawful (handOutput e b s) := by
  unfold handOutput
  split
  · exact budgetLawful_of_moves ((takeOutput_moves ..).trans (goOn_moves ..)) h
  · unfold asmCheckDone
    split
    · exact h
    · split
      · exact h
      · split
        · split
          · exact h
          · exact budgetLawful_of_keys (by simp) h
        · split
          · exact budgetLawful_of_keys (raiseBoth_keys ..) (budgetLawful_emptySlot h)
          · split
            · exact h
            · exact budgetLawful_of_keys (by simp) h
        · exact h
  · unfold asmTagDone
    split
    · exact h
    · split
      · exact h
      · split
        · exact h
        · rename_i hr
          refine budgetLawful_of_keys (raiseBoth_keys ..) ?_
          exact budgetLawful_setSlot_same h hr rfl
  · unfold scrubCompare
    split
    · exact h
    · split
      · rename_i hr
        split
        · split_ifs
          · exact h
          · exact budgetLawful_of_keys (raiseNotice_keys ..) (budgetLawful_setSlot_same h hr rfl)
          · exact h
        · exact h
      · exact h

theorem cipherComplete_lawful (b : Bool) (h : BudgetLawful s) : BudgetLawful (cipherComplete b s) := by
  unfold cipherComplete
  split
  · exact h
  · refine budgetLawful_of_moves (unitFree_moves _) ?_
    split
    · exact h
    · exact handOutput_lawful _ _ h

theorem tamperLanes_moves (s : State) : s.keys.Moves (tamperLanes s).keys := by
  unfold tamperLanes
  induction List.range 8 generalizing s with
  | nil => exact .refl _
  | cons n l ih => exact (tamperLane_moves n s).trans (ih _)

theorem eraseAll_lawful (s : State) : BudgetLawful (eraseAll s) := by
  refine (budgetLawful_iff _).2 fun n => ?_
  rw [show (eraseAll s).slotAt n = none from look_replicate ..]
  exact .none

theorem tamperEvent_lawful (h : BudgetLawful s) : BudgetLawful (tamperEvent s) := by
  unfold tamperEvent
  split
  · exact h
  · have h1 : BudgetLawful (tamperOrders s) := eraseAll_lawful { s with latch := true, cipher := cancelAll s.cipher }
    refine budgetLawful_of_moves (tamperLanes_moves _) (budgetLawful_of_keys ?_ h1)
    unfold tamperAssembly tamperAuth
    split <;> split <;> simp

theorem tamperPowerOff_lawful (h : BudgetLawful s) : BudgetLawful (tamperPowerOff s) := by
  unfold tamperPowerOff
  split
  · exact h
  · exact eraseAll_lawful { s with latch := true }

/-- The clearing of the reserved counts keeps the law of a slot. -/
theorem clearBinding_lawful {x : Slot} (h : SlotLawful x) : SlotLawful (x.map fun r =>
    { r with bound := [], allowance := r.allowance.map fun al => { al with reserved := 0 } }) := by
  intro _ hr al hal m hm
  obtain ⟨r, rfl, rfl⟩ := Option.map_eq_some_iff.1 hr
  obtain ⟨al', hal', rfl⟩ := Option.map_eq_some_iff.1 hal
  exact ⟨Nat.zero_le m, (h r rfl al' hal' m hm).2⟩

theorem withoutVolatile_lawful (h : BudgetLawful s) : BudgetLawful s.withoutVolatile :=
  budgetLawful_mapSlots rfl (fun _ => clearBinding_lawful) rfl h

theorem powerLoss_lawful (h : BudgetLawful s) : BudgetLawful (powerLoss s) := by
  unfold powerLoss
  split
  · exact withoutVolatile_lawful h
  · exact h

theorem powerOn_lawful (h : BudgetLawful s) : BudgetLawful (powerOn s) := by
  unfold powerOn reportOff
  split
  · exact h
  · dsimp only
    split
    · exact withoutVolatile_lawful h
    · exact budgetLawful_of_keys (raiseNotice_keys ..) (withoutVolatile_lawful h)

theorem startUpAfterRestart_lawful (h : BudgetLawful s) : BudgetLawful (startUpAfterRestart s) := by
  unfold startUpAfterRestart
  split <;> exact h

@[simp] theorem resolveRecord_keys (r : Record) (s : State) : (resolveRecord r s).2.keys = s.keys := by
  unfold resolveRecord; split <;> simp

@[simp] theorem resolveRecords_keys (l : List Record) (s : State) : (resolveRecords l s).2.keys = s.keys := by
  induction l generalizing s with
  | nil => rfl
  | cons r l ih =>
    simp [resolveRecords, ih]

theorem settleStores_lawful (h : BudgetLawful s) : BudgetLawful (settleStores s) := by
  refine budgetLawful_mapSlots (f := fun x => if (x.map SlotRec.state) = some .assembling then none else x) rfl
    (fun x hx => ?_) (s := { s with keys := { s.keys with slots := clearBindings s.keys.slots } }) ?_
    (budgetLawful_mapSlots rfl (fun _ => clearBinding_lawful) rfl h)
  · split
    · exact .none
    · exact hx
  · simp [settleStores]

theorem announce_keys (c : StartCause) (m : Mode) (k : Nat) (s : State) : (announce c m k s).keys = s.keys := by
  have raised (l : List Line) : ∀ u : State, (l.foldl (fun t l => raiseNotice l t) u).keys = u.keys := by
    induction l with
    | nil => exact fun _ => rfl
    | cons x l ih => exact fun u => (ih _).trans (raiseNotice_keys u x)
  exact raised s.link.hold _

theorem selfTestComplete_lawful (a b c d : Bool) (h : BudgetLawful s) :
    BudgetLawful (selfTestComplete a b c d s) := by
  have h1 {m cause k} {t : State} (ht : t.keys = (announce cause m k (bringUp m (settleStores s))).keys) :
      BudgetLawful t := budgetLawful_of_keys (ht.trans (announce_keys ..)) (settleStores_lawful h)
  unfold selfTestComplete
  split
  · exact h
  · split
    · exact h
    · unfold unitTested
      dsimp only
      split
      · exact budgetLawful_of_moves (unitFree_moves _) (h1 rfl)
      · exact h1 rfl

end

theorem budgetLawful_kept : Kept BudgetLawful where
  link _ _ h := h
  panel _ _ h := h
  pending _ _ h := h
  dualTimer _ _ h := h
  serveRuns i _ h := serveRuns_lawful i h
  panelAnswer l _ h := panelAnswer_lawful l h
  dualExpiry _ h := dualExpiry_lawful h
  scrubExpiry _ h := scrubExpiry_lawful h
  cipherComplete b _ h := cipherComplete_lawful b h
  beginWaiting n s h := budgetLawful_of_moves (beginWaiting_moves n s) h
  transmitEnd n s h := budgetLawful_of_moves (transmitEnd_moves n s) h
  benchFrame _ _ _ _ _ _ h := budgetLawful_of_moves (benchFrame_moves ..) h
  overlongHeader n s h := budgetLawful_of_keys (overlongHeader_keys n s) h
  benchCharacter _ _ _ _ _ h := budgetLawful_of_moves (benchCharacter_moves ..) h
  gapExpiry n s h := budgetLawful_of_keys (gapExpiry_keys n s) h
  timerExpiry n s h := budgetLawful_of_moves (timerExpiry_moves n s) h
  contactChange n b s h := budgetLawful_of_keys (contactChange_keys n s b) h
  settleExpiry n s h := budgetLawful_of_moves (settleExpiry_moves n s) h
  retryReservation n s h := budgetLawful_of_moves (retryReservation_moves n s) h
  tamperEvent _ h := tamperEvent_lawful h
  tamperPowerOff _ h := tamperPowerOff_lawful h
  powerOn _ h := powerOn_lawful h
  startUpAfterRestart _ h := startUpAfterRestart_lawful h
  powerLoss _ h := powerLoss_lawful h
  selfTestComplete _ _ _ _ _ h := selfTestComplete_lawful _ _ _ _ h

/-- Settles O9: each block keeps the law; the lanes' work moves an allowance only by reservations where one is available,
delivery starts and returns (`AllowanceStep`), each of which keeps the law of R9. -/
theorem budgetLawKept : Obligations.BudgetLawKept := fun _ _ h hst => budgetLawful_kept.step h hst

end Sys2Proof.Machine

namespace Sys2Proof.Machine

/-! ## The requests of the Key Store (R5 to R10, R14, R43): O4, O5, O6, O60 -/

section arguments
variable {n d b : Nat} {s : State}

/-- A number of at most `d` digits is read. -/
theorem num_val {k : Nat → Answer × State} (h : n < 10 ^ d) : (Arg.val n).num d s k = k n := by simp [Arg.num, h]

theorem below_lt {k : Answer × State} (h : n < b) : below b n s k = k := by simp [below, h]
theorem below_ge {k : Answer × State} (h : b ≤ n) : below b n s k = refuse .range s := by
  simp [below, Nat.not_lt.2 h]

/-- A number of a place of the table is read; a number past it is RANGE. -/
theorem index_val {k : Nat → Answer × State} (hd : n < 10 ^ 8) (h : n < b) : (Arg.val n).index b s k = k n := by
  rw [Arg.index, num_val hd, below_lt h]
theorem index_past {k : Nat → Answer × State} (hd : n < 10 ^ 8) (h : b ≤ n) :
    (Arg.val n).index b s k = refuse .range s := by rw [Arg.index, num_val hd, below_ge h]

end arguments

section slots
variable {s : State} {n : Nat} {r : SlotRec}

theorem suspendSlot_active (hn : n < 64) (hr : s.slotAt n = some r) (h : r.state = .active) :
    suspendSlot (.val n) s =
      (.ok [fSlot n, fState "SUSPENDED"], s.setSlot n (some { r with state := .suspended })) := by
  rw [suspendSlot, index_val (by omega) hn]; simp [hr, h]

theorem suspendSlot_other (hn : n < 64) (h : (s.slotAt n).map SlotRec.state ≠ some .active) :
    suspendSlot (.val n) s = refuse .wrongState s := by
  rw [suspendSlot, index_val (by omega) hn]
  cases hr : s.slotAt n with
  | none => rfl
  | some r => simp [show r.state ≠ .active by simpa [hr] using h]

theorem resumeSlot_suspended (hn : n < 64) (hr : s.slotAt n = some r) (h : r.state = .suspended) :
    resumeSlot (.val n) s = (.ok [fSlot n, fState "ACTIVE"], s.setSlot n (some { r with state := .active })) := by
  rw [resumeSlot, index_val (by omega) hn]; simp [hr, h]

theorem resumeSlot_other (hn : n < 64) (h : (s.slotAt n).map SlotRec.state ≠ some .suspended) :
    resumeSlot (.val n) s = refuse .wrongState s := by
  rw [resumeSlot, index_val (by omega) hn]
  cases hr : s.slotAt n with
  | none => rfl
  | some r => simp [show r.state ≠ .suspended by simpa [hr] using h]

/-- R7: what ERASE-SLOT answers, by the slot it finds. -/
theorem eraseSlot_val (hn : n < 64) : eraseSlot (.val n) s = match s.slotAt n with
    | some r =>
      if r.bound ≠ [] then refuse .inUse s
      else if r.state = .assembling then refuse .wrongState s
      else (.ok [fSlot n, fState "EMPTY"], s.emptySlot n)
    | none => refuse .wrongState s := by
  rw [eraseSlot, index_val (by omega) hn]
  cases s.slotAt n with
  | none => rfl
  | some r => simp

/-- R10: a finite budget below the reserved count. -/
def Budget.short (b : Budget) (reserved : Nat) : Bool :=
  match b with
  | .count m => m < reserved
  | .unlimited => false

theorem Budget.short_iff {b : Budget} {k : Nat} : b.short k = true ↔ ∃ m, b = .count m ∧ m < k := by
  cases b <;> simp [Budget.short]

/-- A budget in range is of its form. -/
theorem budget_inRange {b : Budget} (hb : ∀ m, b = .count m → m ≤ Config.budgetMax) {m : Nat} (h : b = .count m) :
    ¬ 100000000 ≤ m ∧ ¬ Config.budgetMax < m := by
  have := hb m h
  simp only [Config.budgetMax] at this ⊢
  omega

/-- R10: SET-BUDGET with a budget in range, on a slot in use that has an allowance. -/
theorem setBudget_inUse {b : Budget} {al : Allowance} (hn : n < 64) (hb : ∀ m, b = .count m → m ≤ Config.budgetMax)
    (hr : s.slotAt n = some r) (hst : r.state ≠ .assembling) (hal : r.allowance = some al) :
    setBudget (.val n) (.val b) s =
      if b.short al.reserved then refuse .range s
      else (.ok [fSlot n, .field "BUDGET" b.value, .field "RESERVED" (.num al.reserved)],
            s.setSlot n (some { r with allowance := some { al with budget := b } })) := by
  have hform := @budget_inRange b hb
  rw [setBudget, num_val (by omega), Arg.need]
  cases b <;> simp [below_lt hn, hform, hr, hst, hal, Budget.short]

/-- R10: and on any other slot. -/
theorem setBudget_other {b : Budget} (hn : n < 64) (hb : ∀ m, b = .count m → m ≤ Config.budgetMax)
    (h : ∀ r, s.slotAt n = some r → r.state = .assembling ∨ r.allowance = none) :
    setBudget (.val n) (.val b) s = refuse .wrongState s := by
  have hform := @budget_inRange b hb
  rw [setBudget, num_val (by omega), Arg.need]
  cases hr : s.slotAt n with
  | none => cases b <;> simp [below_lt hn, hform]
  | some r =>
    cases hal : r.allowance with
    | none => cases b <;> simp [below_lt hn, hform, hal]
    | some al =>
      have hst : r.state = .assembling := by simpa [hal] using h r hr
      cases b <;> simp [below_lt hn, hform, hal, hst]

/-- R10: a number above 1,000,000. -/
theorem setBudget_above {m : Nat} (hn : n < 64) (h1 : Config.budgetMax < m) (h2 : m < 10 ^ 8) :
    setBudget (.val n) (.val (.count m)) s = refuse .range s := by
  rw [setBudget, num_val (by omega), Arg.need]
  simp [below_lt hn, h1, show ¬ 100000000 ≤ m by omega]

theorem readSlot_val (hn : n < 64) : readSlot (.val n) s = (.ok (slotFields (s.slotAt n)), s) :=
  index_val (by omega) hn

end slots

/-- Settles O4, by the request's answer for the slot found in each case. -/
theorem slotStateRequests : Obligations.SlotStateRequests := by
  refine ⟨fun s tag n r hs hn hr => ⟨fun h => ?_, fun h => ?_, fun hb ha => ?_⟩,
    fun s tag n hs hn => ⟨fun h i hi => ?_, fun h => ⟨fun hst => ?_, fun hst => ?_, fun he => ?_, ?_, ?_⟩⟩⟩
  · exact custodian_ok hs (suspendSlot (.val n)) rfl (suspendSlot_active hn (by simpa using hr) h)
  · exact custodian_ok hs (resumeSlot (.val n)) rfl (resumeSlot_suspended hn (by simpa using hr) h)
  · exact custodian_ok hs (eraseSlot (.val n)) rfl (by rw [eraseSlot_val hn]; simp [hr, hb, ha, State.emptySlot, fSlot, fState])
  · simp only [List.mem_cons, List.not_mem_nil, or_false] at hi
    rcases hi with rfl | rfl | rfl
    · exact custodian_err hs (suspendSlot (.val n)) rfl (index_past hn h)
    · exact custodian_err hs (resumeSlot (.val n)) rfl (index_past hn h)
    · exact custodian_err hs (eraseSlot (.val n)) rfl (index_past hn h)
  · exact custodian_err hs (suspendSlot (.val n)) rfl (suspendSlot_other h (by simpa using hst))
  · exact custodian_err hs (resumeSlot (.val n)) rfl (resumeSlot_other h (by simpa using hst))
  · exact custodian_err hs (eraseSlot (.val n)) rfl (by rw [eraseSlot_val h]; simp [he, refuse])
  · exact fun r hr hb ha =>
      custodian_err hs (eraseSlot (.val n)) rfl (by rw [eraseSlot_val h]; simp [hr, hb, ha, refuse])
  · exact fun r hr hb =>
      custodian_err hs (eraseSlot (.val n)) rfl (by rw [eraseSlot_val h]; simp [hr, hb, refuse])

/-- Settles O5. -/
theorem keySettings : Obligations.KeySettings := by
  refine ⟨fun s tag n b hs hn => ⟨fun m hb h1 h2 => ?_, fun hb => ⟨fun hr => ?_, fun r al hr hst hal => ⟨?_, ?_⟩⟩⟩,
    fun s tag v p hs hv => ⟨?_, ?_⟩⟩
  · subst hb
    exact custodian_err hs (setBudget (.val n) (.val (.count m))) rfl (setBudget_above hn h1 h2)
  · exact custodian_err hs (setBudget (.val n) (.val b)) rfl (setBudget_other hn hb (by simpa using hr))
  · intro hshort
    refine custodian_err hs (setBudget (.val n) (.val b)) rfl ?_
    rw [setBudget_inUse hn hb (by simpa using hr) hst hal, if_pos (Budget.short_iff.2 hshort), refuse]
  · intro hfit
    have hshort : ¬ b.short al.reserved = true := fun h => by
      obtain ⟨m, hm, hlt⟩ := Budget.short_iff.1 h
      have := hfit m hm
      omega
    refine custodian_ok hs (setBudget (.val n) (.val b)) rfl ?_
    rw [setBudget_inUse hn hb (by simpa using hr) hst hal, if_neg hshort, fSlot]
  · refine custodian_ok hs (setScrub (.val v)) rfl ?_
    rw [setScrub, num_val hv]
    simp [Config.scrubMax]
  · exact custodian_ok hs (setParityPolicy (.val p)) rfl (by cases p <;> simp [setParityPolicy, Arg.need, Policy.word])

/-- Settles O6: both requests read the slots as they stand. -/
theorem slotReads : Obligations.SlotReads := by
  refine fun s tag n hs hn => ⟨?_, fun hr => ?_, fun r hr => ?_⟩
  · exact operator_ok hs listSlots rfl rfl
  · exact operator_ok hs (readSlot (.val n)) rfl (by rw [readSlot_val hn, heard_slotAt, hr]; rfl)
  · refine operator_ok hs (readSlot (.val n)) rfl ?_
    rw [readSlot_val hn, heard_slotAt, hr]
    cases hm : r.material <;> cases ha : r.allowance <;> simp [slotFields, hm, ha, cvValue, ids, fState] <;> rfl

/-! ### The state after reset -/

theorem reset_slotAt (n : Nat) : State.reset.slotAt n = none := look_replicate ..
theorem reset_accountAt (n : Nat) : State.reset.accountAt n = none := look_replicate ..
theorem reset_planAt (n : Nat) : State.reset.planAt n = .factory := look_replicate ..

/-- Settles O60: slots, accounts and plans are empty at reset, so their laws hold of nothing; the rest is read off. -/
theorem resetState : Obligations.ResetState := by
  refine ⟨by decide, by decide, by decide, by decide, by decide, fun n v h => ?_, fun n _ h => ?_, fun n r al m h => ?_,
    fun n a h => ?_, rfl, rfl, rfl, fun n _ => look_replicate .., rfl, rfl, rfl, rfl, rfl, fun n _ => look_replicate ..,
    fun n _ => ?_, fun n hn => ?_, rfl, rfl, rfl, rfl⟩
  · rw [reset_planAt] at h; simp [Plan.factory] at h
  · rw [reset_accountAt] at h; cases h
  · rw [reset_slotAt] at h; cases h
  · rw [reset_accountAt] at h; cases h
  · rw [reset_planAt]; exact ⟨rfl, rfl⟩
  · interval_cases n <;> exact ⟨rfl, rfl, rfl, rfl, rfl, rfl⟩

end Sys2Proof.Machine

namespace Sys2Proof.Machine

/-! ## A release right after a bind request (R11, R13): O8 -/

/-- The other lanes' bindings are as they were. -/
theorem filter_ne_addBinding (lane held : Nat) (l : List Binding) :
    (addBinding lane held l).filter (fun b => b.lane ≠ lane) = l.filter fun b => b.lane ≠ lane := by
  induction l with
  | nil => simp [addBinding]
  | cons b l ih =>
    unfold addBinding
    split_ifs with h1 h2
    · simp
    · simp [h2]
    · simp only [List.filter_cons, ih]

/-- The lane's reservations have risen by those of the binding. -/
theorem sum_held_addBinding (lane held : Nat) (l : List Binding) :
    (((addBinding lane held l).filter fun b => b.lane = lane).map Binding.held).sum =
      ((l.filter fun b => b.lane = lane).map Binding.held).sum + held := by
  induction l with
  | nil => simp [addBinding]
  | cons b l ih =>
    unfold addBinding
    split_ifs with h1 h2
    · simp [Nat.add_comm]
    · simp [h2]; omega
    · simp only [List.filter_cons, Ne.symm h2, decide_false, Bool.false_eq_true, if_false, ih]

/-- R11, R13: a release takes back what a binding with its reservations added. -/
theorem releaseSlot_bound (lane held : Nat) (r : SlotRec) :
    releaseSlot lane (some { r with
      allowance := r.allowance.map fun al => { al with reserved := al.reserved + held }
      bound := addBinding lane held r.bound }) = releaseSlot lane (some r) := by
  simp only [releaseSlot, Option.map_some, filter_ne_addBinding, sum_held_addBinding, Option.map_map, Function.comp_def,
    Nat.add_sub_add_right]

/-- What agrees with the place in a view of it, put there, changes no place in that view. -/
theorem view_put {n : Nat} {α β : Type} (f : α → β) {t : Table n α} {i : Nat} {x d : α} (h : f x = f (look t d i))
    (j : Nat) : f (look (put t i x) d j) = f (look t d j) := by
  rw [look_put]
  split
  · rename_i hij; rw [h, hij.1]
  · rfl

/-- A LOAD step's binding leaves the slots as a release finds them. -/
theorem releaseSlot_bindStep {lane : Nat} {st : Step} {a b : Table 64 Slot} (h : bindStep lane st a = .ok b)
    (n : Nat) : releaseSlot lane (look b none n) = releaseSlot lane (look a none n) := by
  obtain ⟨k, al, t, hk, hal, -, ht, hkc, htc, rfl⟩ := bindStep_ok h
  have hne : st.slot.getD 64 ≠ st.tslot.getD 64 := bindStep_apart hk ht hkc htc
  have hkey := releaseSlot_bound lane 1 k
  have htrans := releaseSlot_bound lane 0 t
  simp only [hal, Option.map_some] at hkey
  simp only [Nat.add_zero, Option.map_id'] at htrans
  rw [view_put (releaseSlot lane) (by rw [look_put_ne _ _ _ _ _ hne, ht]; exact htrans),
    view_put (releaseSlot lane) (by rw [hk]; exact hkey)]

theorem releaseSlot_bindSteps {lane : Nat} {l : List (Nat × Step)} {a b : Table 64 Slot}
    (h : bindSteps lane l a = .ok b) (n : Nat) :
    releaseSlot lane (look b none n) = releaseSlot lane (look a none n) := by
  induction l generalizing a with
  | nil => cases h; rfl
  | cons p l ih =>
    unfold bindSteps at h
    split at h
    · cases h
    · rename_i hb
      rw [ih h, releaseSlot_bindStep hb]

/-- R13: a lane without a binding on a slot releases nothing. -/
theorem releaseSlot_unbound {lane : Nat} {x : Slot} (h : ∀ r, x = some r → ∀ b ∈ r.bound, b.lane ≠ lane) :
    releaseSlot lane x = x := by
  cases x with
  | none => rfl
  | some r =>
    have h1 : r.bound.filter (fun b => b.lane = lane) = [] :=
      List.filter_eq_nil_iff.2 fun b hb => by simpa using h r rfl b hb
    have h2 : r.bound.filter (fun b => b.lane ≠ lane) = r.bound :=
      List.filter_eq_self.2 fun b hb => by simpa using h r rfl b hb
    simp only [releaseSlot, Option.map_some, h1, h2, List.map_nil, List.sum_nil, Nat.sub_zero, Option.map_id']

/-- Two tables that read alike are the same. -/
theorem table_ext {n : Nat} {α : Type} {a b : Table n α} (d : α) (h : ∀ i, look a d i = look b d i) : a = b := by
  refine Vector.ext fun i hi => ?_
  simpa [look, Vector.getElem?_eq_getElem hi] using h i

/-- Settles O8, by induction over the LOAD steps: each leaves every slot as a release finds it. -/
theorem releaseUndoesBinding : Obligations.ReleaseUndoesBinding := by
  intro s t lane loads hun h
  obtain ⟨slots, hb, rfl⟩ := bindSlots_ok h
  have hslots : slots.map (releaseSlot lane) = s.keys.slots := table_ext none fun n => by
    rw [show look (slots.map (releaseSlot lane)) none n = _ from look_map slots (releaseSlot lane) none n,
      releaseSlot_bindSteps hb]
    exact releaseSlot_unbound (hun n)
  simp only [releaseLane, hslots]

end Sys2Proof.Machine

namespace Sys2Proof.Machine

/-! ## What a reader of the Key Store is shown (R1, R8): O7 -/

/-- Two Key Stores that the reading requests and STATUS show alike. -/
structure KeyStore.ShowsAlike (k k' : KeyStore) : Prop where
  fields (n : Nat) : slotFields (look k'.slots none n) = slotFields (look k.slots none n)
  letters : k'.slots.toList.map slotLetter = k.slots.toList.map slotLetter
  interval : k'.scrubInterval = k.scrubInterval

/-- A reading in `s` and one in `s` with other keys: the answers agree and nothing changes. -/
structure ReadsAlike (s : State) (k : KeyStore) (p q : Answer × State) : Prop where
  answer : q.1 = p.1
  left : p.2 = s
  right : q.2 = { s with keys := k }

namespace ReadsAlike
variable {s : State} {k : KeyStore}

theorem ok (l : List Item) : ReadsAlike s k (.ok l, s) (.ok l, { s with keys := k }) := ⟨rfl, rfl, rfl⟩

theorem refuse (c : ErrCode) : ReadsAlike s k (refuse c s) (refuse c { s with keys := k }) := ⟨rfl, rfl, rfl⟩

theorem need {α : Type} {a : Arg α} {f g : α → Answer × State} (h : ∀ v, ReadsAlike s k (f v) (g v)) :
    ReadsAlike s k (a.need s f) (a.need { s with keys := k } g) := by
  cases a with
  | val v => exact h v
  | absent => exact refuse _
  | malformed => exact refuse _

theorem num {a : Arg Nat} {d : Nat} {f g : Nat → Answer × State} (h : ∀ v, ReadsAlike s k (f v) (g v)) :
    ReadsAlike s k (a.num d s f) (a.num d { s with keys := k } g) := by
  cases a with
  | val v => unfold Arg.num; dsimp only; split; exacts [h v, refuse _]
  | absent => exact refuse _
  | malformed => exact refuse _

theorem optNum {a : Arg Nat} {d : Nat} {f g : Option Nat → Answer × State} (h : ∀ v, ReadsAlike s k (f v) (g v)) :
    ReadsAlike s k (a.optNum d s f) (a.optNum d { s with keys := k } g) := by
  cases a with
  | val v => unfold Arg.optNum; dsimp only; split; exacts [h _, refuse _]
  | absent => exact h _
  | malformed => exact refuse _

theorem below {b n : Nat} {p q : Answer × State} (h : ReadsAlike s k p q) :
    ReadsAlike s k (below b n s p) (below b n { s with keys := k } q) := by
  unfold Machine.below; split
  · exact h
  · exact refuse _

theorem index {a : Arg Nat} {b : Nat} {f g : Nat → Answer × State} (h : ∀ n, ReadsAlike s k (f n) (g n)) :
    ReadsAlike s k (a.index b s f) (a.index b { s with keys := k } g) := num fun n => below (h n)

theorem ite {c : Prop} [Decidable c] {p p' q q' : Answer × State} (hp : ReadsAlike s k p p')
    (hq : ReadsAlike s k q q') : ReadsAlike s k (if c then p else q) (if c then p' else q') := by
  split
  · exact hp
  · exact hq

end ReadsAlike

/-- A request that reads: it changes nothing, and shows no difference between Key Stores that show alike. -/
def Reading (h : State → Answer × State) : Prop :=
  ∀ (s : State) (k : KeyStore), s.keys.ShowsAlike k → ReadsAlike s k (h s) (h { s with keys := k })

theorem status_reading : Reading status := fun _ _ hk => ⟨by simp [status, hk.interval], rfl, rfl⟩
theorem listSlots_reading : Reading listSlots := fun _ _ hk => ⟨by simp [listSlots, hk.letters], rfl, rfl⟩

theorem readSlot_reading (n : Arg Nat) : Reading (readSlot n) := fun _ _ hk =>
  .index fun n => ⟨congrArg Answer.ok (hk.fields n), rfl, rfl⟩

theorem readIssue_reading (n : Arg Nat) : Reading (readIssue n) := fun _ _ _ => .index fun _ => .ok _
theorem readPlan_reading (n : Arg Nat) : Reading (readPlan n) := fun _ _ _ => .index fun _ => .ok _
theorem readLane_reading (n : Arg Nat) : Reading (readLane n) := fun _ _ _ => .index fun _ => .ok _
theorem readWindow_reading (n : Arg Nat) (lv : Level) : Reading (readWindow n lv) := fun _ _ _ => .index fun _ => .ok _
theorem readWindowSummary_reading (lv : Level) : Reading (readWindowSummary lv) := fun _ _ _ => .ok _

theorem readPlanStep_reading (p : Arg Nat) (w : Arg Which) (i : Arg Nat) : Reading (readPlanStep p w i) := by
  refine fun s k _ => .num fun n => .need fun w => .optNum fun i => .below ?_
  dsimp only [State.planAt]
  cases (look s.plans .factory n).which w with
  | none => exact .refuse _
  | some v =>
    cases i with
    | none => exact .ok _
    | some i =>
      dsimp only
      cases v.steps[i]? with
      | none => exact .refuse _
      | some st => exact .ok _

theorem readRecord_reading : Reading readRecord := by
  intro s k _
  unfold readRecord
  dsimp only
  cases oldestClosed s.records.entries with
  | none => exact .refuse _
  | some r => exact .ok _

theorem recordRef_alike {s : State} {k : KeyStore} {n o : Arg Nat} {f g : Nat → Nat → Answer × State}
    (h : ∀ a b, ReadsAlike s k (f a b) (g a b)) :
    ReadsAlike s k (recordRef n o s f) (recordRef n o { s with keys := k } g) :=
  .num fun _ => .num fun _ => .below (.below (h _ _))

theorem readEntry_reading (n o : Arg Nat) (x : Bool) (f : Record → List Item) : Reading (readEntry n o x f) := by
  refine fun s k _ => .ite (.refuse _) (recordRef_alike fun a b => ?_)
  dsimp only [recordAt]
  cases s.records.entries.find? (Record.isRef a b) with
  | none => exact .refuse _
  | some r => exact .ok _

theorem readRecordDelivery_reading (n o i : Arg Nat) : Reading (readRecordDelivery n o i) := by
  refine fun s k _ => .ite (.refuse _) (recordRef_alike fun a b => ?_)
  dsimp only [recordAt]
  cases s.records.entries.find? (Record.isRef a b) with
  | none => exact .refuse _
  | some r =>
    refine .num fun j => ?_
    cases r.deliveries[j]? with
    | none => exact .refuse _
    | some d => exact .ok _

theorem restartDual_withKeys (s : State) (k : KeyStore) :
    restartDual { s with keys := k } = { restartDual s with keys := k } := by rw [restartDual_eq, restartDual_eq]

/-- The reply of a reading request, at either level, whether it is admitted or not. -/
theorem Reading.request_link {h : State → Answer × State} (hh : Reading h) (lvl : Level) (tag : Text) (b : Bool)
    {s : State} {k : KeyStore} (hk : s.keys.ShowsAlike k) :
    (request lvl tag b h { s with keys := k }).link = (request lvl tag b h s).link := by
  have hadm : admitted lvl { s with keys := k } = admitted lvl s := by cases lvl <;> rfl
  have hreply (u : State) (hu : u.keys = s.keys) :
      (setReply ((h { u with keys := k }).1.line tag) (h { u with keys := k }).2).link =
        (setReply ((h u).1.line tag) (h u).2).link := by
    obtain ⟨h1, h2, h3⟩ := hh u k (hu ▸ hk)
    rw [h1, h2, h3]
    rfl
  unfold request
  rw [hadm]
  split
  · rfl
  · split
    · rfl
    · cases lvl with
      | operator => exact hreply s rfl
      | custodian =>
        dsimp only
        rw [restartDual_withKeys]
        exact hreply _ restartDual_keys

/-- A reading request gives the Link Port the same line and the same state. -/
theorem Reading.exec_link {h : State → Answer × State} (hh : Reading h) {i : Instr} {tag : Text} {lv : Level} {b : Bool}
    (hi : ∀ u, exec i u = requestLine i u) (hserve : ∀ u, serveRuns i u = request lv tag b h u) {s t t' : State}
    {k : KeyStore} (hs : LinkReady s) (hk : s.keys.ShowsAlike k) (ht : exec i s = .next t)
    (ht' : exec i { s with keys := k } = .next t') : t'.link = t.link := by
  have hs' : LinkReady { s with keys := k } := hs
  rw [hi, requestLine, lineEnds_ready hs, hserve] at ht
  rw [hi, requestLine, lineEnds_ready hs', hserve] at ht'
  cases ht
  cases ht'
  exact congrArg LinkPort.take (hh.request_link (s := heard s) lv tag b hk)

/-- A slot's key and integrity tag are not among what is shown of it. -/
theorem showsAlike_setSlot {s : State} {n : Nat} {r : SlotRec} {m m' : Material} (hr : s.slotAt n = some r)
    (hm : r.material = some m) (hcv : m'.cv = m.cv) :
    s.keys.ShowsAlike (s.setSlot n (some { r with material := some m' })).keys := by
  have hr' : look s.keys.slots none n = some r := hr
  refine ⟨fun j => view_put slotFields ?_ j, ?_, rfl⟩
  · rw [hr']
    simp [slotFields, hm, hcv]
  · have : (s.setSlot n (some { r with material := some m' })).keys.slots.map slotLetter =
        s.keys.slots.map slotLetter := table_ext (slotLetter none) fun j => by
      rw [look_map, look_map]
      exact view_put slotLetter (by rw [hr']; rfl) j
    rw [← Vector.toList_map, ← Vector.toList_map, this]

/-- Settles O7: each of the requests is a reading, and reads no key and no tag. -/
theorem keysNotShown : Obligations.KeysNotShown := by
  intro s t t' n r m m' i tag hs hr hm hcv hi ht ht'
  have hk := showsAlike_setSlot hr hm hcv
  have shown {h lv b} (hh : Reading h) (hx : ∀ u, exec i u = requestLine i u)
      (hserve : ∀ u, serveRuns i u = request lv tag b h u) : t'.link = t.link :=
    hh.exec_link hx hserve hs.1 hk ht ht'
  simp only [List.mem_cons, List.not_mem_nil, or_false] at hi
  rcases hi with (rfl | rfl | rfl) | ⟨k, rfl | rfl | rfl | rfl⟩ | ⟨p, w, k, rfl⟩ | ⟨k, lv, rfl | rfl⟩ |
    ⟨a, o, b, rfl | rfl | rfl⟩ | ⟨a, o, k, rfl⟩
  · exact shown status_reading (fun _ => rfl) fun _ => rfl
  · exact shown listSlots_reading (fun _ => rfl) fun _ => rfl
  · exact shown readRecord_reading (fun _ => rfl) fun _ => rfl
  · exact shown (readSlot_reading k) (fun _ => rfl) fun _ => rfl
  · exact shown (readIssue_reading k) (fun _ => rfl) fun _ => rfl
  · exact shown (readPlan_reading k) (fun _ => rfl) fun _ => rfl
  · exact shown (readLane_reading k) (fun _ => rfl) fun _ => rfl
  · exact shown (readPlanStep_reading p w k) (fun _ => rfl) fun _ => rfl
  · exact shown (readWindow_reading k lv) (fun _ => rfl) fun _ => rfl
  · exact shown (readWindowSummary_reading lv) (fun _ => rfl) fun _ => rfl
  · exact shown (readEntry_reading a o b Record.summary) (fun _ => rfl) fun _ => rfl
  · exact shown (readEntry_reading a o b _) (fun _ => rfl) fun _ => rfl
  · exact shown (readEntry_reading a o b _) (fun _ => rfl) fun _ => rfl
  · exact shown (readRecordDelivery_reading a o k) (fun _ => rfl) fun _ => rfl

end Sys2Proof.Machine

namespace Sys2Proof.Machine

/-! ## Writing a place twice -/

theorem put_put {n : Nat} {α : Type} (t : Table n α) (i : Nat) (x y : α) : put (put t i x) i y = put t i y :=
  table_ext y fun j => by rw [look_put, look_put, look_put]; split <;> rfl

/-- A place that is written as it stands. -/
theorem put_look {n : Nat} {α : Type} {t : Table n α} {i : Nat} {x d : α} (h : look t d i = x) : put t i x = t :=
  table_ext d fun j => by
    rw [look_put]
    split
    · rename_i hij; rw [← hij.1, h]
    · rfl

/-! ## The notices and messages beside the rest of the state -/

/-- R179: a notice touches the Link Port alone. -/
theorem raiseNotice_eq (l : Line) (s : State) : raiseNotice l s = { s with link := (raiseNotice l s).link } := by
  rcases raiseNotice_cases l s with ⟨-, h⟩ | ⟨-, -, h⟩ | ⟨-, -, h⟩ <;> rw [h]

/-- R32: a message touches the Panel Port alone. -/
theorem raiseMessage_eq (l : Line) (s : State) : raiseMessage l s = { s with panel := (raiseMessage l s).panel } := by
  unfold raiseMessage; split <;> rfl

theorem raiseBoth_eq (l : Line) (s : State) :
    raiseBoth l s = { s with link := (raiseBoth l s).link, panel := (raiseBoth l s).panel } := by
  unfold raiseBoth
  rw [raiseMessage_eq, raiseNotice_eq]

theorem raiseNotice_withCipher (l : Line) (s : State) (u : CipherUnit) :
    { raiseNotice l s with cipher := u } = raiseNotice l { s with cipher := u } := by
  unfold raiseNotice; dsimp only; split
  · rfl
  · split <;> rfl

theorem raiseMessage_withCipher (l : Line) (s : State) (u : CipherUnit) :
    { raiseMessage l s with cipher := u } = raiseMessage l { s with cipher := u } := by
  unfold raiseMessage; dsimp only; split <;> rfl

@[simp] theorem raiseNotice_cipher (l : Line) (s : State) : (raiseNotice l s).cipher = s.cipher := by
  rw [raiseNotice_eq]
@[simp] theorem raiseMessage_cipher (l : Line) (s : State) : (raiseMessage l s).cipher = s.cipher := by
  rw [raiseMessage_eq]
@[simp] theorem raiseBoth_cipher (l : Line) (s : State) : (raiseBoth l s).cipher = s.cipher := by
  rw [raiseBoth_eq]

/-! ## The Cipher Unit (R17 to R22) -/

theorem startCheck_withCipher (s : State) (u : CipherUnit) (req : CipherRequest) :
    startCheck { s with cipher := u } req = startCheck s req := by cases req <;> rfl

theorem inputOf_withCipher (s : State) (u : CipherUnit) (req : CipherRequest) :
    inputOf { s with cipher := u } req = inputOf s req := by
  cases req with
  | lane r => obtain ⟨_, op, _⟩ := r; cases op <;> rfl
  | _ => rfl

/-- The operation of a requester, with the inputs that the slots give now. -/
def Executing.of (q : Nat) (req : CipherRequest) (s : State) : Executing :=
  { requester := q, request := req, input := inputOf s req, dropped := false }

/-- R19, R21: a requester whose start check passes. -/
theorem serveRequester_started {q : Nat} {req : CipherRequest} {s : State} (h : startCheck s req = .started) :
    serveRequester q req s = ({ s with cipher := { s.cipher with
      waiting := put s.cipher.waiting q none, last := q, executing := some (.of q req s) } }, .started) := by
  simp only [serveRequester, h, Executing.of]

/-- R21: a scrub that its start check skips. -/
theorem serveRequester_skipped {q : Nat} {req : CipherRequest} {s : State} (h : startCheck s req = .skipped) :
    serveRequester q req s =
      ({ s with cipher := { s.cipher with waiting := put s.cipher.waiting q none, last := q } }, .skipped) := by
  simp only [serveRequester, h]

/-- R18: a request posted while an operation executes waits. -/
theorem post_busy {q : Nat} {req : CipherRequest} {s : State} (h : s.cipher.executing.isSome) :
    post q req s =
      ({ s with cipher := { s.cipher with waiting := put s.cipher.waiting q (some req) } }, .started) := by
  have : s.cipher.executing.isNone = false := by simpa using h
  simp [post, cipherFree, this]

/-- R19: a request posted while the unit is free is served. -/
theorem post_free {q : Nat} {req : CipherRequest} {s : State} (h : s.cipher.executing = none)
    (hself : s.cipher.selfTest = false) (hm : s.mode = .normal) : post q req s = serveRequester q req s := by
  simp [post, cipherFree, h, hself, hm]

/-- A run of numbers, cut at one of them. -/
theorem range_cut {i n : Nat} (h : i < n) : List.range n = List.range i ++ i :: List.range' (i + 1) (n - (i + 1)) := by
  have h1 : List.range' i (n - i) = i :: List.range' (i + 1) (n - (i + 1)) := by
    rw [show n - i = n - (i + 1) + 1 by omega, List.range'_succ]
  have h2 := List.range'_append_1 (s := 0) (m := i) (n := n - i)
  rw [Nat.zero_add, h1, show i + (n - i) = n by omega] at h2
  simpa [List.range_eq_range'] using h2.symm

/-- R19: the first waiting requester after the one served last. -/
theorem nextWaiting_first {u : CipherUnit} {i : Nat} {req : CipherRequest} (hi : i < 10)
    (hreq : look u.waiting none ((u.last + 1 + i) % 10) = some req)
    (hfirst : ∀ j < i, look u.waiting none ((u.last + 1 + j) % 10) = none) :
    nextWaiting u = some ((u.last + 1 + i) % 10, req) :=
  List.findSome?_eq_some_iff.2 ⟨_, i, _, range_cut hi, by simp [hreq],
    fun j hj => by simp [hfirst j (List.mem_range.1 hj)]⟩

theorem nextWaiting_none {u : CipherUnit} (h : ∀ q < 10, look u.waiting none q = none) : nextWaiting u = none :=
  List.findSome?_eq_none_iff.2 fun i _ => by simp [h _ (Nat.mod_lt (u.last + 1 + i) (by decide : 0 < 10))]

/-- R19: the only request that waits is the next. -/
theorem nextWaiting_only {u : CipherUnit} {q : Nat} {req : CipherRequest} (hq : q < 10)
    (h : ∀ j < 10, look u.waiting none j = none) :
    nextWaiting { u with waiting := put u.waiting q (some req) } = some (q, req) := by
  have hi : (u.last + 1 + (q + 10 - (u.last + 1) % 10) % 10) % 10 = q := by omega
  have := nextWaiting_first (u := { u with waiting := put u.waiting q (some req) }) (req := req)
    (i := (q + 10 - (u.last + 1) % 10) % 10) (by omega) (by dsimp only; rw [hi, look_put_self _ _ _ _ hq])
    (fun j hj => by
      dsimp only
      rw [look_put_ne _ _ _ _ _ (by omega)]
      exact h _ (Nat.mod_lt _ (by decide)))
  rwa [hi] at this

/-- R19: the unit becomes free and nothing waits. -/
theorem unitFree_none {s : State} (h : nextWaiting s.cipher = none) :
    unitFree s = { s with cipher := { s.cipher with executing := none } } := by
  have h' : nextWaiting { s.cipher with executing := none } = none := h
  have hserve : serveWaiting 10 { s with cipher := { s.cipher with executing := none } } =
      ({ s with cipher := { s.cipher with executing := none } }, []) := by
    simp only [serveWaiting, h', ite_self]
  simp only [unitFree, hserve, keyFaults]

/-- R19, R21: the unit becomes free, and the next request passes its start check. -/
theorem unitFree_serves {s : State} {q : Nat} {req : CipherRequest} (hself : s.cipher.selfTest = false)
    (hm : s.mode = .normal) (hn : nextWaiting s.cipher = some (q, req)) (hc : startCheck s req = .started) :
    unitFree s = { s with cipher := { s.cipher with
      waiting := put s.cipher.waiting q none, last := q, executing := some (.of q req s) } } := by
  have hn' : nextWaiting { s.cipher with executing := none } = some (q, req) := hn
  have hreq := serveRequester_started (q := q) ((startCheck_withCipher s { s.cipher with executing := none } req).trans hc)
  rw [Executing.of, inputOf_withCipher] at hreq
  have hfree : cipherFree { s with cipher := { s.cipher with executing := none } } = true := by
    simp [cipherFree, hself, hm]
  rw [unitFree, show serveWaiting 10 _ = _ from serveWaiting.eq_2 { s with cipher := _ } 9, if_pos hfree]
  simp only [hn', hreq, keyFaults]
  rfl

/-- R17, R19: a request posted as a requester takes its output, with no other waiting, is served when the unit becomes
free. -/
theorem unitFree_post {s : State} {q : Nat} {req : CipherRequest} (hq : q < 10) (he : s.cipher.executing.isSome)
    (hw : ∀ j < 10, look s.cipher.waiting none j = none) (hself : s.cipher.selfTest = false) (hm : s.mode = .normal)
    (hc : startCheck s req = .started) :
    unitFree (post q req s).1 =
      { s with cipher := { s.cipher with last := q, executing := some (.of q req s) } } := by
  have h := unitFree_serves (s := { s with cipher := { s.cipher with waiting := put s.cipher.waiting q (some req) } })
    hself hm (nextWaiting_only hq hw) ((startCheck_withCipher s _ req).trans hc)
  rw [Executing.of, inputOf_withCipher] at h
  rw [post_busy he, h]
  simp only [put_put, put_look (hw q hq), Executing.of]

/-- R22: the completion of an operation. -/
theorem exec_cipherComplete {s : State} {e : Executing} (he : s.cipher.executing = some e) (intact : Bool) :
    exec (.cipherOperationComplete intact) s =
      .next (pump (unitFree (if e.dropped then s else handOutput e intact s))) := by
  change finish (cipherComplete intact s) = _
  simp only [cipherComplete, he, finish]

/-- Settles O11: the output of a marked operation reaches nobody, and the arbiter's search finds the requester. -/
theorem arbiterServesInTurn : Obligations.ArbiterServesInTurn := by
  intro s e i req intact he hd hself hm hi hreq hfirst hc
  rw [exec_cipherComplete he, if_pos hd, unitFree_serves hself hm (nextWaiting_first hi hreq hfirst) hc]
  rfl

end Sys2Proof.Machine

namespace Sys2Proof.Machine

/-! ## The scrubber (R14 to R16): O10 -/

/-- R15: the search from the pointer finds the first slot that is not EMPTY. -/
theorem nextScrub_first {s : State} {i : Nat} (hi : i < 64)
    (hr : (s.slotAt ((s.keys.scrubPointer + 1 + i) % 64)).isSome)
    (hfirst : ∀ j < i, s.slotAt ((s.keys.scrubPointer + 1 + j) % 64) = none) :
    nextScrub s = some ((s.keys.scrubPointer + 1 + i) % 64) := by
  have hbefore : ((List.range i).map fun j => (s.keys.scrubPointer + 1 + j) % 64).find?
      (fun n => (s.slotAt n).isSome) = none := List.find?_eq_none.2 (by simpa using hfirst)
  rw [nextScrub, range_cut hi, List.map_append, List.find?_append, List.map_cons, hbefore, Option.none_or,
    List.find?_cons_of_pos (p := fun n => (s.slotAt n).isSome) hr]

theorem nextScrub_none {s : State} (h : ∀ n < 64, s.slotAt n = none) : nextScrub s = none :=
  List.find?_eq_none.2 fun n hn => by
    obtain ⟨i, -, rfl⟩ := List.mem_map.1 hn
    simp [h _ (Nat.mod_lt _ (by decide : 0 < 64))]

/-- The Key Store once the scrub timer has started again and the pointer stands at slot `n`. -/
def KeyStore.scrubbing (k : KeyStore) (n : Nat) : KeyStore :=
  { k with scrubTimer := some k.scrubInterval, scrubPointer := n }

/-- R14, R15: an expiry that finds a slot posts its TAG. -/
theorem scrubExpiry_posts {s : State} {n : Nat} (ht : s.keys.scrubTimer.isSome)
    (hw : look s.cipher.waiting none 9 = none) (hn : nextScrub s = some n) :
    scrubExpiry s = (post 9 (.scrub n (look s.keys.entryNos 0 n)) { s with keys := s.keys.scrubbing n }).1 := by
  obtain ⟨t, ht⟩ := Option.isSome_iff_exists.1 ht
  have hw' : isWaiting reqScrubber { s with keys := { s.keys with scrubTimer := some s.keys.scrubInterval } } = false := by
    simp [isWaiting, reqScrubber, hw]
  have hn' : nextScrub { s with keys := { s.keys with scrubTimer := some s.keys.scrubInterval } } = some n := hn
  simp only [scrubExpiry, ht, hw', hn']
  rfl

/-- R15: while the scrubber's request waits, or with every slot EMPTY, it posts nothing. -/
theorem scrubExpiry_quiet {s : State} (ht : s.keys.scrubTimer.isSome)
    (h : (look s.cipher.waiting none 9).isSome ∨ ∀ n < 64, s.slotAt n = none) :
    scrubExpiry s = { s with keys := { s.keys with scrubTimer := some s.keys.scrubInterval } } := by
  obtain ⟨t, ht⟩ := Option.isSome_iff_exists.1 ht
  simp only [scrubExpiry, ht]
  rcases h with hw | hn
  · have hw' : isWaiting reqScrubber { s with keys := { s.keys with scrubTimer := some s.keys.scrubInterval } } = true :=
      hw
    rw [if_pos hw']
  · have hn' : nextScrub { s with keys := { s.keys with scrubTimer := some s.keys.scrubInterval } } = none :=
      nextScrub_none (s := { s with keys := { s.keys with scrubTimer := some s.keys.scrubInterval } }) hn
    simp only [hn', ite_self]

section
variable {s : State} {n : Nat} {k : BitVec 16} {r : SlotRec}

/-- R17, R21: the TAG of a slot that is not ASSEMBLING starts. -/
theorem startCheck_scrub (hr : s.slotAt n = some r) :
    startCheck s (.scrub n k) = if r.state = .assembling then .skipped else .started := by
  simp [startCheck, hr]

theorem inputOf_scrub (hr : s.slotAt n = some r) :
    inputOf s (.scrub n k) = .tag r.cls r.alg (s.slotKey n) r.kver r.label := by simp [inputOf, hr]

variable {m : Material} {out : Text} {intact : Bool}

/-- R16: contents in use that do not produce their tag. -/
theorem scrubCompare_fault (hr : s.slotAt n = some r) (hm : r.material = some m) (hk : k = look s.keys.entryNos 0 n)
    (hst : r.state = .active ∨ r.state = .suspended) (hbad : intact = false ∨ out ≠ m.tag) :
    scrubCompare n k out intact s =
      raiseNotice [.word "!", .word "SLOT-FAULT", fSlot n] (s.setSlot n (some { r with state := .faulted })) := by
  have hbad' : ¬ (intact = true ∧ out = m.tag) := fun ⟨h1, h2⟩ => by simp [h1, h2] at hbad
  rw [scrubCompare, if_neg (not_not.2 hk.symm)]
  simp [hr, hm, hst, hbad']

/-- R16: contents that agree, a slot already FAULTED, and a result whose entry number has passed. -/
theorem scrubCompare_same (hr : s.slotAt n = some r) (hm : r.material = some m)
    (h : (intact = true ∧ out = m.tag) ∨ r.state = .faulted ∨ k ≠ look s.keys.entryNos 0 n) :
    scrubCompare n k out intact s = s := by
  rcases h with h | h | h
  · simp [scrubCompare, hr, hm, h]
  · simp [scrubCompare, hr, hm, h]
  · rw [scrubCompare, if_pos h.symm]

end

/-- Settles O10. -/
theorem scrubber : Obligations.Scrubber := by
  refine ⟨fun s i n k r u ht hw hi hn hr hfirst hk hu => ?_, fun s ht h => ?_,
    fun s e n k r m intact tag cls alg key kver label he hreq hin htag hd hw hr hm => ⟨fun hk hst hbad => ?_, fun h => ?_⟩⟩
  · subst hn hk
    have hpost : exec .scrubTimerExpiry s = .next (pump (post 9
        (.scrub ((s.keys.scrubPointer + 1 + i) % 64) (look s.keys.entryNos 0 ((s.keys.scrubPointer + 1 + i) % 64)))
        { s with keys := u }).1) := by
      change finish (scrubExpiry s) = _
      rw [scrubExpiry_posts ht hw (nextScrub_first hi (by rw [hr]; rfl) hfirst), hu]
      rfl
    have hr' : State.slotAt { s with keys := u } ((s.keys.scrubPointer + 1 + i) % 64) = some r := by rw [hu]; exact hr
    have hkey : State.slotKey { s with keys := u } = s.slotKey := by rw [hu]; rfl
    have hcheck := startCheck_scrub (k := look s.keys.entryNos 0 ((s.keys.scrubPointer + 1 + i) % 64)) hr'
    refine ⟨fun he => ?_, fun he hself hm => ⟨fun hst => ?_, fun hst => ?_⟩⟩
    · rw [hpost, post_busy (s := { s with keys := u }) he]
    · rw [if_neg hst] at hcheck
      rw [hpost, post_free (s := { s with keys := u }) he hself hm, serveRequester_started hcheck, Executing.of, inputOf_scrub hr', hkey]
      simp only [put_look hw]
    · rw [if_pos hst] at hcheck
      rw [hpost, post_free (s := { s with keys := u }) he hself hm, serveRequester_skipped hcheck]
      simp only [put_look hw]
  · change finish (scrubExpiry s) = _
    rw [scrubExpiry_quiet ht h, finish]
  · have hout : handOutput e intact s = scrubCompare n k tag intact s := by
      simp only [handOutput, hreq, hin, CipherInput.bytes, htag]
    rw [exec_cipherComplete he, hd, if_neg Bool.false_ne_true, hout, scrubCompare_fault hr hm hk hst hbad,
      unitFree_none (by simpa using nextWaiting_none hw), raiseNotice_withCipher]
    simp [fSlot]
  · have hout : handOutput e intact s = scrubCompare n k tag intact s := by
      simp only [handOutput, hreq, hin, CipherInput.bytes, htag]
    rw [exec_cipherComplete he, hd, if_neg Bool.false_ne_true, hout, scrubCompare_same hr hm h,
      unitFree_none (nextWaiting_none hw)]

/-! ## The outputs of the Component Assembler (R45, R48): O23 -/

section
variable {s : State} {a : Assembly} {cv : CheckValue}

/-- R45: the check value of a component is shown. -/
theorem asmCheckDone_component (ha : s.asm.record = some a) (hp : a.phase = .checking) {h : HeldComponent}
    (hh : a.held = some h) : asmCheckDone a.number cv s =
      raiseMessage [.word "CV", fId h.id, .field "VALUE" (cvValue cv)]
        (s.setAsm (some { a with held := some { h with cv := some cv }, phase := .confirming })) := by
  simp [asmCheckDone, ha, hp, hh]

/-- R48: a finished key that is not the one expected. -/
theorem asmCheckDone_failed (ha : s.asm.record = some a) (hp : a.phase = .finishingCheck) {v : CheckValue}
    (hv : a.expected = some v) (hne : v ≠ cv) : asmCheckDone a.number cv s =
      raiseBoth (assemblyLine a.slot [.field "RESULT" (.word "FAILED"), .field "CV" (cvValue cv)])
        ((s.emptySlot a.slot).setAsm none) := by
  simp [asmCheckDone, ha, hp, hv, hne]

/-- R48: the finished key is the one expected, or none was: its TAG is posted. -/
theorem asmCheckDone_tag (ha : s.asm.record = some a) (hp : a.phase = .finishingCheck)
    (hv : a.expected = none ∨ a.expected = some cv) {r : SlotRec} (hr : s.slotAt a.slot = some r) :
    asmCheckDone a.number cv s =
      (post reqAssembler (.asmTag a.number r.cls r.alg (a.finished.getD []) r.kver r.label)
        (s.setAsm (some { a with finishedCv := some cv, phase := .finishingTag }))).1 := by
  have hno : ¬ (a.expected.isSome ∧ a.expected ≠ some cv) := by rcases hv with h | h <;> simp [h]
  simp only [asmCheckDone, ha, hp, hr, ne_eq, not_true_eq_false, if_false, Bool.and_eq_true, decide_eq_true_eq]
  rw [if_neg hno]

/-- R48: key, check value and tag are written together, the entry number rises and the slot becomes ACTIVE. -/
theorem asmTagDone_eq (ha : s.asm.record = some a) (hp : a.phase = .finishingTag) {r : SlotRec}
    (hr : s.slotAt a.slot = some r) (tag : Text) : asmTagDone a.number tag s =
      raiseBoth (assemblyLine a.slot [.field "RESULT" (.word "DONE"), .field "CV" (cvValue (a.finishedCv.getD 0)),
          .field "PARTS" (.raw (partsText a.done))])
        { s with
          keys := { s.keys with
            slots := put s.keys.slots a.slot (some { r with
              state := .active
              material := some { key := a.finished.getD [], cv := a.finishedCv.getD 0, tag := tag } })
            entryNos := put s.keys.entryNos a.slot (look s.keys.entryNos 0 a.slot + 1) }
          asm := { s.asm with record := none } } := by
  simp only [asmTagDone, ha, hp, hr, ne_eq, not_true_eq_false, decide_false, Bool.or_false, Bool.false_eq_true, if_false]
  rfl

end

/-- Settles O23, output by output. -/
theorem assemblyOutputs : Obligations.AssemblyOutputs := by
  intro s e a r intact alg key cv he hd hw ha hr hslot hcv
  have hidle (t : State) (ht : t.cipher = s.cipher) :
      unitFree t = { t with cipher := { s.cipher with executing := none } } := by
    rw [unitFree_none (by rw [ht]; exact nextWaiting_none hw), ht]
  refine ⟨fun hreq hin => ?_, fun cls kver label v tag hreq hin htag hp hf hfcv => ?_⟩
  · have hout : handOutput e intact s = asmCheckDone a.number cv s := by
      simp only [handOutput, hreq, hin, CipherInput.value, hcv]
    have hexec : exec (.cipherOperationComplete intact) s = .next (pump (unitFree (asmCheckDone a.number cv s))) := by
      rw [exec_cipherComplete he, hd, if_neg Bool.false_ne_true, hout]
    refine ⟨fun h hp hh => ?_, fun v hp hv hne => ?_, fun hp hv hself hm => ?_⟩
    · rw [hexec, asmCheckDone_component ha hp hh, hidle _ (by simp), raiseMessage_withCipher]
      rfl
    · refine ⟨_, hexec, ?_⟩
      rw [asmCheckDone_failed ha hp hv hne, hidle _ (by simp), raiseBoth_eq]
      rfl
    · have hpost := unitFree_post (s := s.setAsm (some { a with finishedCv := some cv, phase := .finishingTag }))
        (q := reqAssembler) (req := .asmTag a.number r.cls r.alg (a.finished.getD []) r.kver r.label) (by decide)
        (by simp [he]) hw hself hm rfl
      rw [hexec, asmCheckDone_tag ha hp hv hr, hpost]
      rfl
  · have hexec : exec (.cipherOperationComplete intact) s = .next (pump (unitFree (asmTagDone a.number tag s))) := by
      rw [exec_cipherComplete he, hd, if_neg Bool.false_ne_true]
      simp only [handOutput, hreq, hin, CipherInput.bytes, htag]
    refine ⟨_, hexec, ?_⟩
    rw [asmTagDone_eq ha hp hr, hf, hfcv, hidle _ (by simp), raiseBoth_eq]
    refine ⟨look_put_self _ _ _ _ hslot, look_put_self _ _ _ _ hslot, rfl, fun n hn => ⟨?_, ?_⟩⟩
    · exact look_put_ne _ _ _ _ _ (Ne.symm hn)
    · exact look_put_ne _ _ _ _ _ (Ne.symm hn)

end Sys2Proof.Machine

namespace Sys2Proof.Machine

/-! ## The lanes, their lines and their run contexts -/

section
variable (s : State) (n m : Nat)

theorem modLine_modLine (f g : BenchLine → BenchLine) :
    (s.modLine n f).modLine n g = s.modLine n fun l => g (f l) := by
  unfold State.modLine State.setLine State.lineAt
  by_cases h : n < 8
  · simp [look_put_self _ _ _ _ h, put_put]
  · simp [put, Vector.setIfInBounds_eq_of_size_le (show 8 ≤ n by omega)]

theorem modLane_modLane (f g : Lane → Lane) : (s.modLane n f).modLane n g = s.modLane n fun l => g (f l) := by
  unfold State.modLane State.setLane State.laneAt
  by_cases h : n < 8
  · simp [look_put_self _ _ _ _ h, put_put]
  · simp [put, Vector.setIfInBounds_eq_of_size_le (show 8 ≤ n by omega)]

theorem modCtx_modCtx (f g : RunContext → RunContext) :
    (s.modCtx n f).modCtx n g = s.modCtx n fun c => g (f c) := by
  unfold State.modCtx
  rw [modLane_modLane]
  simp only [Option.map_map, Function.comp_def]

theorem modLine_modCtx (f : BenchLine → BenchLine) (g : RunContext → RunContext) :
    (s.modLine n f).modCtx m g = (s.modCtx m g).modLine n f := rfl

theorem ctxAt_modCtx_self {c : RunContext} {f : RunContext → RunContext} (hn : n < 8) (hc : s.ctxAt n = some c) :
    (s.modCtx n f).ctxAt n = some (f c) := by simp [ctxAt_modCtx, hn, hc]

theorem slotAt_lt {k : SlotRec} (h : s.slotAt n = some k) : n < 64 := by
  by_contra hn
  rw [State.slotAt, look, Vector.getElem?_eq_none (by omega)] at h
  cases h

/-- R113, R165: what a lane writes into its OPEN entry touches the Record Queue alone. -/
theorem syncOpen_eq : syncOpen n s = { s with records := (syncOpen n s).records } := by
  unfold syncOpen; split <;> rfl

@[simp] theorem syncOpen_ctxAt : (syncOpen n s).ctxAt m = s.ctxAt m := by rw [syncOpen_eq]; rfl
@[simp] theorem syncOpen_lines : (syncOpen n s).lines = s.lines := by rw [syncOpen_eq]
@[simp] theorem syncOpen_cipher : (syncOpen n s).cipher = s.cipher := by rw [syncOpen_eq]
@[simp] theorem syncOpen_accounts : (syncOpen n s).accounts = s.accounts := by rw [syncOpen_eq]
@[simp] theorem syncOpen_mode : (syncOpen n s).mode = s.mode := by rw [syncOpen_eq]

/-- R165: the OPEN entries of the lane hold its delivery entries. -/
theorem syncOpen_deliveries {c : RunContext} (hc : s.ctxAt n = some c) :
    ∀ r ∈ (syncOpen n s).records.entries, r.closed = false → r.lane = n → r.deliveries = c.deliveries := by
  intro r hr h1 h2
  rw [syncOpen, show (s.laneAt n).ctx = some c from hc] at hr
  obtain ⟨r', -, rfl⟩ := List.mem_map.1 hr
  split at h1 <;> rename_i ho
  · rw [if_pos ho]
  · rw [if_neg ho] at h2
    exact absurd (by simp [isOpenOf, h1, h2]) ho

/-! ## Delivery start (R12, R63, R123) -/

/-- R12: a delivery start touches the Key Store alone. -/
theorem deliveryStart_eq (k : Nat) : deliveryStart n k s = { s with keys := (deliveryStart n k s).keys } := by
  unfold deliveryStart; split
  · split <;> rfl
  · rfl

/-- R12: of a slot on which the lane has a binding. -/
theorem deliveryStart_bound {k : Nat} {r : SlotRec} {al : Allowance} {b : Binding} (hr : s.slotAt k = some r)
    (hal : r.allowance = some al) (hb : b ∈ r.bound) (hbn : b.lane = n) :
    deliveryStart n k s = s.setSlot k (some { r with
      allowance := some { budget := al.budget.spend, reserved := al.reserved - 1 }
      bound := r.bound.map fun b => if b.lane = n then { b with held := b.held - 1 } else b }) := by
  obtain ⟨x, hx⟩ := Option.isSome_iff_exists.1
    (List.find?_isSome.2 ⟨b, hb, by simpa using hbn⟩ : (r.bound.find? fun b => b.lane = n).isSome)
  simp only [deliveryStart, hr, hx, hal]

/-- R63: a consumption touches the accounts alone. -/
theorem consume_eq : consume n s = { s with accounts := (consume n s).accounts } := by
  unfold consume; split <;> rfl

theorem consume_accountAt (hn : n < 64) : (consume n s).accountAt m =
    if m = n then (s.accountAt m).map fun a => { a with consumed := a.consumed + 1 } else s.accountAt m := by
  unfold consume
  split
  · rename_i ha
    split
    · rename_i h; rw [h, ha]; rfl
    · rfl
  · rename_i a ha
    rw [accountAt_setAccount]
    by_cases h : n = m
    · subst h; simp [ha, hn]
    · simp [h, Ne.symm h]

/-- R123: the delivery's entry is DELIVERING. -/
def RunContext.delivered (c : RunContext) : RunContext := c.modDelivery fun d => { d with phase := .delivering }

/-- R12, R63, R123: a delivery start, entry, key slot and account. -/
theorem startDelivery_some {c : RunContext} {d : Delivery} (hc : s.ctxAt n = some c) (hd : c.delivery = some d) :
    startDelivery n s =
      if d.tki.isSome then consume d.slot (deliveryStart n d.slot (syncOpen n (s.modCtx n RunContext.delivered)))
      else deliveryStart n d.slot (syncOpen n (s.modCtx n RunContext.delivered)) := by
  simp only [startDelivery, hc, Option.bind_some, hd, State.modDelivery]
  rfl

/-- What a delivery start leaves of the state beside the Key Store, the accounts and the records. -/
theorem startDelivery_eq {c : RunContext} {d : Delivery} (hc : s.ctxAt n = some c) (hd : c.delivery = some d) :
    startDelivery n s = { s.modCtx n RunContext.delivered with
      keys := (startDelivery n s).keys, accounts := (startDelivery n s).accounts
      records := (syncOpen n (s.modCtx n RunContext.delivered)).records } := by
  rw [startDelivery_some s n hc hd]
  split
  · rw [consume_eq, deliveryStart_eq, syncOpen_eq]
  · rw [deliveryStart_eq, syncOpen_eq]

/-- R12: the key slot of a delivery that starts. -/
theorem startDelivery_keys {c : RunContext} {d : Delivery} {r : SlotRec} {al : Allowance} {b : Binding}
    (hc : s.ctxAt n = some c) (hd : c.delivery = some d) (hr : s.slotAt d.slot = some r) (hal : r.allowance = some al)
    (hb : b ∈ r.bound) (hbn : b.lane = n) : (startDelivery n s).keys = (s.setSlot d.slot (some { r with
      allowance := some { budget := al.budget.spend, reserved := al.reserved - 1 }
      bound := r.bound.map fun b => if b.lane = n then { b with held := b.held - 1 } else b })).keys := by
  have hr' : (syncOpen n (s.modCtx n RunContext.delivered)).slotAt d.slot = some r := by
    rw [State.slotAt, syncOpen_keys]; exact hr
  have h : (startDelivery n s).keys =
      (deliveryStart n d.slot (syncOpen n (s.modCtx n RunContext.delivered))).keys := by
    rw [startDelivery_some s n hc hd]
    split
    · rw [consume_keys]
    · rfl
  rw [h, deliveryStart_bound _ n hr' hal hb hbn]
  simp only [State.setSlot, syncOpen_keys, State.modCtx_keys]

/-- R63: the accounts as a delivery starts: that of a derived key's root slot has one consumed number more. -/
theorem startDelivery_accountAt {c : RunContext} {d : Delivery} (hc : s.ctxAt n = some c) (hd : c.delivery = some d)
    (hslot : d.slot < 64) : (startDelivery n s).accountAt m =
      if m = d.slot ∧ d.tki.isSome then (s.accountAt m).map fun a => { a with consumed := a.consumed + 1 }
      else s.accountAt m := by
  have hacc (j : Nat) : (deliveryStart n d.slot (syncOpen n (s.modCtx n RunContext.delivered))).accountAt j =
      s.accountAt j := by rw [deliveryStart_eq, syncOpen_eq]; rfl
  rw [startDelivery_some s n hc hd]
  by_cases ht : d.tki.isSome
  · rw [if_pos ht, consume_accountAt _ _ _ hslot, hacc]
    simp [ht]
  · simp [ht, hacc]

end

/-! ## Sending (R137, R140): O46 -/

/-- R140: the line as transmit start leaves it. -/
def BenchLine.sends (f : OutFrame) (l : BenchLine) : BenchLine :=
  { l with tx := .sending f l.rate l.parity (frameChars f.kind.code f.body), next := none, rx := .closed, gapTimer := none }

section
variable {s : State} {n : Nat} {f : OutFrame}

/-- R140: transmit start of a frame that is no frame of the lane's run. -/
theorem transmitStart_other (h : ∀ c, s.ctxAt n = some c → c.ordinal ≠ f.ordinal) :
    transmitStart n f s = s.modLine n (BenchLine.sends f) := by
  unfold transmitStart
  dsimp only
  rw [ctxAt_modLine]
  cases hc : s.ctxAt n with
  | none => rfl
  | some c => exact if_pos (h c hc)

/-- R123, R140: transmit start of a frame of the lane's run. -/
theorem transmitStart_own {c : RunContext} (hc : s.ctxAt n = some c) (ho : c.ordinal = f.ordinal) :
    transmitStart n f s =
      if f.kind = .key then
        startDelivery n ((s.modLine n (BenchLine.sends f)).modCtx n fun c => { c with frameSent := true })
      else (s.modLine n (BenchLine.sends f)).modCtx n fun c => { c with frameSent := true } := by
  unfold transmitStart
  dsimp only
  rw [ctxAt_modLine, hc]
  exact if_neg (not_not.2 ho)

theorem beginWaiting_none (h : (s.lineAt n).tx = .idle → (s.lineAt n).next = none) : beginWaiting n s = s := by
  unfold beginWaiting
  split
  · rename_i f htx hf
    rw [h htx] at hf
    cases hf
  · rfl

theorem beginWaiting_some (htx : (s.lineAt n).tx = .idle) (hf : (s.lineAt n).next = some f) :
    beginWaiting n s = transmitStart n f s := by simp only [beginWaiting, htx, hf]

/-- R117: the timer is loaded for the frame of the current step alone. -/
theorem loadStepTimer_other (h : ∀ c, s.ctxAt n = some c → c.ordinal ≠ f.ordinal ∨ c.stage ≠ .frame) :
    loadStepTimer n f s = s := by
  unfold loadStepTimer
  cases hc : s.ctxAt n with
  | none => rfl
  | some c =>
    refine if_neg ?_
    rcases h c hc with h | h <;> simp [h]

theorem loadStepTimer_own {c : RunContext} {st : Step} (hc : s.ctxAt n = some c) (ho : c.ordinal = f.ordinal)
    (hg : c.stage = .frame) (hst : c.current = some st) :
    loadStepTimer n f s = s.setTimer n (some st.timeoutMs) := by
  simp [loadStepTimer, hc, ho, hg, hst]

/-- R137, R140: a transmit end with no frame waiting. -/
theorem transmitEnd_sending {r : Rate} {p : Parity} {cs : Text} (hn : n < 8)
    (htx : (s.lineAt n).tx = .sending f r p cs) (hnext : (s.lineAt n).next = none) :
    transmitEnd n s = loadStepTimer n f (s.setLine n { s.lineAt n with
      tx := .idle, rx := if (s.laneAt n).state = .offline then .closed else .hunting }) := by
  have hline (u : State) : (loadStepTimer n f u).lineAt n = u.lineAt n := by
    unfold loadStepTimer; split
    · rfl
    · split <;> rfl
  simp only [transmitEnd, htx, ne_eq, ite_not]
  rw [beginWaiting_none fun _ => ?_]
  · rfl
  · rw [hline]
    simp [lineAt_modLine, hn, hnext]

end

/-- Settles O46. -/
theorem benchSend : Obligations.BenchSend := by
  rintro s l n x y f rfl rfl
  have hn := l.isLt
  have hstart : exec (.transmitStart l) s = .next (pump (beginWaiting l s)) := rfl
  have hend : exec (.transmitEnd l) s = .next (pump (transmitEnd l s)) := rfl
  refine ⟨fun _ hnext => ?_, fun htx => ?_, fun htx hf hy => ⟨fun hc => ?_, fun c hc => ⟨fun ho => ?_, fun ho hk => ?_,
    fun d k al b ho hk hd hr hal hb hbn => ?_⟩⟩, fun rate parity chars u htx hnext hu => ⟨fun hc => ?_, fun c hc => ⟨fun h => ?_,
    fun st ho hg hst => ?_⟩⟩⟩
  · rw [hstart, beginWaiting_none fun _ => hnext]
  · rw [hend, transmitEnd, htx]
  · rw [hstart, beginWaiting_some htx hf, transmitStart_other (by simp [hc]), hy]
    rfl
  · rw [hstart, beginWaiting_some htx hf, transmitStart_other (by simpa [hc] using ho), hy]
    rfl
  · rw [hstart, beginWaiting_some htx hf, transmitStart_own hc ho, if_neg hk, hy]
    rfl
  · -- the KEY frame: `u` is the state in which its delivery starts
    obtain ⟨u, hu⟩ : ∃ u, u = (s.modLine l (BenchLine.sends f)).modCtx l fun c => { c with frameSent := true } := ⟨_, rfl⟩
    have huc : u.ctxAt l = some { c with frameSent := true } := by
      rw [hu]; exact ctxAt_modCtx_self _ _ hn hc
    have hud : RunContext.delivery { c with frameSent := true } = some d := hd
    refine ⟨pump (startDelivery l u), ?_, ?_⟩
    · rw [hstart, beginWaiting_some htx hf, transmitStart_own hc ho, if_pos hk, hu]
    have hslot : d.slot < 64 := slotAt_lt s _ hr
    have hkeys := startDelivery_keys u l huc hud (by rw [hu]; exact hr) hal hb hbn
    have hacc (j : Nat) := startDelivery_accountAt u l j huc hud hslot
    have hsame (j : Nat) : u.accountAt j = s.accountAt j := by rw [hu]; rfl
    refine ⟨?_, ?_, ?_, fun j hj => ⟨?_, ?_⟩, fun ht => ?_, fun ht => ?_, ?_⟩
    · change (startDelivery l u).lineAt l = y
      rw [startDelivery_eq u l huc hud, hy, hu]
      exact (lineAt_modLine ..).trans (if_pos ⟨rfl, hn⟩)
    · change (startDelivery l u).ctxAt l = _
      rw [startDelivery_eq u l huc hud]
      exact ctxAt_modCtx_self _ _ hn huc
    · change look (startDelivery l u).keys.slots none d.slot = _
      rw [hkeys]
      exact look_put_self _ _ _ _ hslot
    · change look (startDelivery l u).keys.slots none j = _
      rw [hkeys, show s.slotAt j = u.slotAt j by rw [hu]; rfl]
      exact look_put_ne _ _ _ _ _ hj.symm
    · change (startDelivery l u).accountAt j = _
      simp [hacc, hj, hsame]
    · change (startDelivery l u).accountAt d.slot = _
      simp [hacc, ht, hsame]
    · change (startDelivery l u).accountAt d.slot = _
      simp [hacc, ht, hsame]
    · change ∀ r ∈ (startDelivery l u).records.entries, _
      rw [startDelivery_eq u l huc hud]
      exact syncOpen_deliveries _ _ (ctxAt_modCtx_self _ _ hn huc)
  · rw [hend, transmitEnd_sending hn htx hnext, ← hu,
      loadStepTimer_other (by rw [hu, ctxAt_setLine]; simp [hc])]
  · rw [hend, transmitEnd_sending hn htx hnext, ← hu,
      loadStepTimer_other (by rw [hu, ctxAt_setLine]; simpa [hc] using h)]
  · rw [hend, transmitEnd_sending hn htx hnext, ← hu,
      loadStepTimer_own (by rw [hu, ctxAt_setLine]; exact hc) ho hg hst]

end Sys2Proof.Machine

namespace Sys2Proof.Machine

/-! ## The outputs of a LOAD step's operations (R122, R123, R160): O44 -/

section
variable {s : State} {n : Nat}

/-- A run that waits, goes on no further. -/
theorem goOn_wait : goOn n (s, .wait) = s := rfl

/-- R18, R21: the start check of a lane's request on slots that are in use. -/
theorem startCheck_lane {r : LaneRequest} {k w : SlotRec} (hk : s.slotAt r.slot = some k) (hka : k.state = .active)
    (hw : s.slotAt r.tslot = some w) (hwa : w.state = .active) : startCheck s (.lane r) = .started := by
  simp [startCheck, hk, hw, Slot.isFaulted, hka, hwa]

/-- R122: a LOAD step's operation is posted while another executes. -/
theorem postLoad_busy {c : RunContext} {st : Step} {d : Delivery} (hc : s.ctxAt n = some c) (hst : c.current = some st)
    (hd : c.delivery = some d) (op : LaneOp) (he : s.cipher.executing.isSome) :
    postLoad n op s = ((post n (.lane (loadRequest c (st.kind = .loadDerived) d op)) s).1, .wait) := by
  simp only [postLoad, hc, hst, hd, post_busy he]

/-- R122: the operation that a lane posts as it takes the output of the one before it is served when the unit becomes
free. -/
theorem unitFree_postLoad {c : RunContext} {st : Step} {d : Delivery} {k w : SlotRec} (hn : n < 8)
    (hc : s.ctxAt n = some c) (hst : c.current = some st) (hd : c.delivery = some d) (op : LaneOp)
    (he : s.cipher.executing.isSome) (hq : ∀ j < 10, look s.cipher.waiting none j = none)
    (hself : s.cipher.selfTest = false) (hm : s.mode = .normal) (hk : s.slotAt d.slot = some k) (hka : k.state = .active)
    (hw : s.slotAt d.tslot = some w) (hwa : w.state = .active) :
    unitFree (goOn n (postLoad n op s)) = { s with cipher := { s.cipher with
      last := n
      executing := some (.of n (.lane (loadRequest c (st.kind = .loadDerived) d op)) s) } } := by
  rw [postLoad_busy hc hst hd op he, goOn_wait]
  exact unitFree_post (by omega) he hq hself hm (startCheck_lane hk hka hw hwa)

/-- R140: a frame handed to a line that sends is its next. -/
theorem handFrame_waits {c : RunContext} (k : RequestKind) (b : Text) (hc : s.ctxAt n = some c)
    (htx : (s.lineAt n).tx ≠ .idle) : handFrame n k b s =
      (s.setStage n .frame).modLine n fun l =>
        { l with expected := some k.expects, next := some { ordinal := c.ordinal, kind := k, body := b } } := by
  simp only [handFrame, hc, if_neg htx, modLine_modLine]

/-- R140: a frame handed to an idle line is begun at once. -/
theorem handFrame_begins {c : RunContext} (k : RequestKind) (b : Text) (hc : s.ctxAt n = some c)
    (htx : (s.lineAt n).tx = .idle) : handFrame n k b s =
      transmitStart n { ordinal := c.ordinal, kind := k, body := b }
        ((s.setStage n .frame).modLine n fun l => { l with expected := some k.expects }) := by
  simp only [handFrame, hc, if_pos htx]

variable {r : LaneRequest} {c : RunContext} {i : CipherInput}

/-- R17: the output of a run that is no longer current is discarded. -/
theorem takeOutput_stale (hc : s.ctxAt n = some c) (ho : c.ordinal ≠ r.ordinal) : takeOutput r n i s = (s, .wait) := by
  simp [takeOutput, hc, ho]

/-- R128: with the abort-pending flag set the run ends. -/
theorem takeOutput_abort (hc : s.ctxAt n = some c) (ho : c.ordinal = r.ordinal) (ha : c.abortPending = true) :
    takeOutput r n i s = (s, .fin (.aborted none) none) := by
  simp [takeOutput, hc, ho, ha]

/-! R122: otherwise the lane takes it, operation by operation. -/

theorem takeOutput_derive (hc : s.ctxAt n = some c) (ho : c.ordinal = r.ordinal) (ha : c.abortPending = false)
    (hop : r.op = .derive) :
    takeOutput r n i s = postLoad n .check (s.modCtx n fun c => { c with heldKey := some i.bytes }) := by
  simp only [takeOutput, hc, ho, ha, hop, ne_eq, not_true_eq_false, if_false, Bool.false_eq_true]

theorem takeOutput_check (hc : s.ctxAt n = some c) (ho : c.ordinal = r.ordinal) (ha : c.abortPending = false)
    (hop : r.op = .check) : takeOutput r n i s =
      postLoad n .wrap (fillHeader n (s.modDelivery n fun d => { d with cv := some i.value })) := by
  simp only [takeOutput, hc, ho, ha, hop, ne_eq, not_true_eq_false, if_false, Bool.false_eq_true]

theorem takeOutput_wrap (hc : s.ctxAt n = some c) (ho : c.ordinal = r.ordinal) (ha : c.abortPending = false)
    (hop : r.op = .wrap) : takeOutput r n i s =
      (handFrame n .key (c.header.getD [] ++ i.bytes) (s.modCtx n fun c => { c with heldKey := none, header := none }),
        .wait) := by
  simp only [takeOutput, hc, ho, ha, hop, ne_eq, not_true_eq_false, if_false, Bool.false_eq_true]

/-- R113: the current delivery entry after a change of it. -/
theorem modDelivery_delivery {d : Delivery} (f : Delivery → Delivery) (hd : c.delivery = some d) :
    (c.modDelivery f).delivery = some (f d) := by
  have hd' : c.deliveries[c.deliveryIdx]? = some d := hd
  change (c.deliveries.modify c.deliveryIdx f)[c.deliveryIdx]? = _
  simp [hd']

/-- R159: the header is filled from the key slot and the delivery entry. -/
theorem fillHeader_some {d : Delivery} {k : SlotRec} (hc : s.ctxAt n = some c) (hd : c.delivery = some d)
    (hk : s.slotAt d.slot = some k) :
    fillHeader n s = s.modCtx n fun c => { c with header := some (envelopeHeader k d.pos d.tki) } := by
  simp only [fillHeader, hc, Option.bind_some, hd, hk]

theorem startDelivery_cipher : (startDelivery n s).cipher = s.cipher := by
  cases hc : (s.ctxAt n).bind RunContext.delivery with
  | none => simp only [startDelivery, hc]
  | some d =>
    obtain ⟨c, hc, hd⟩ := Option.bind_eq_some_iff.1 hc
    rw [startDelivery_eq s n hc hd]
    rfl

end

/-- Settles O44, output by output. -/
theorem loadOutputs : Obligations.LoadOutputs := by
  intro s e r n c st d k w intact alg key hn he hreq hq hdrop hwait hself hm hc hst hd hload hrs hrt hk hka hw hwa
  have hexec : exec (.cipherOperationComplete intact) s = .next (pump (unitFree (goOn n (takeOutput r n e.input s)))) := by
    rw [exec_cipherComplete he, hdrop, if_neg Bool.false_ne_true]
    simp only [handOutput, hreq, hq]
  have hidle (t : State) (ht : t.cipher = s.cipher) :
      unitFree t = { t with cipher := { s.cipher with executing := none } } := by
    rw [unitFree_none (by rw [ht]; exact nextWaiting_none hwait), ht]
  have hbusy : s.cipher.executing.isSome := by rw [he]; rfl
  refine ⟨fun ho => ?_, fun ho ha => ?_, fun ho ha => ⟨fun tki out hop hkind hin hout => ?_,
    fun hdr held wrapped hop hin hhdr hheld hwrapped => ?_, fun hdr transport h data f u hop hch hin hdata hf hu => ?_⟩⟩
  · rw [hexec, takeOutput_stale hc ho, goOn_wait, hidle s rfl]
  · rw [hexec, takeOutput_abort hc ho ha]
    rfl
  · have hbytes : e.input.bytes = out := by rw [hin, hout]; rfl
    have hu : (s.modCtx n fun c => { c with heldKey := some out }).ctxAt n = some { c with heldKey := some out } :=
      ctxAt_modCtx_self _ _ hn hc
    rw [hexec, takeOutput_derive hc ho ha hop, hbytes]
    rw [unitFree_postLoad (s := s.modCtx n _) hn hu hst hd .check hbusy hwait hself hm hk hka hw hwa]
    have hkeyslot : (s.modCtx n fun c => { c with heldKey := some out }).slotAlg d.slot = k.alg := by
      rw [State.slotAlg, slotAt_modCtx, hk]
    simp [Executing.of, loadRequest, inputOf, hkind, hkeyslot]
  · -- `u` is the state in which WRAP is posted
    obtain ⟨c', hc'⟩ : ∃ c' : RunContext, c' = { c with
      deliveries := c.deliveries.modify c.deliveryIdx fun d => { d with cv := some (Config.cipher.check alg key) }
      header := some hdr } := ⟨_, rfl⟩
    obtain ⟨u, hu⟩ : ∃ u, u = fillHeader n (s.modDelivery n fun d => { d with cv := some e.input.value }) := ⟨_, rfl⟩
    have hval : e.input.value = Config.cipher.check alg key := by rw [hin]; rfl
    have hvc : (s.modDelivery n fun d => { d with cv := some e.input.value }).ctxAt n =
        some (c.modDelivery fun d => { d with cv := some e.input.value }) := by
      rw [State.modDelivery, syncOpen_ctxAt]; exact ctxAt_modCtx_self _ _ hn hc
    have hu' : u = (s.modDelivery n fun d => { d with cv := some e.input.value }).modCtx n fun c =>
        { c with header := some hdr } := by
      rw [hu, fillHeader_some (k := k) hvc (modDelivery_delivery _ hd)
        (by rw [State.slotAt, modDelivery_keys]; exact hk), hhdr]
    have huc : u.ctxAt n = some c' := by
      rw [hu', ctxAt_modCtx_self _ _ hn hvc, hc', hval]
      rfl
    have hud : c'.delivery = some { d with cv := some (Config.cipher.check alg key) } := by
      rw [hc']; exact modDelivery_delivery (c := c) _ hd
    have hucur : c'.current = some st := by rw [hc']; exact hst
    have hkeys : u.keys = s.keys := by rw [hu', State.modCtx_keys, modDelivery_keys]
    have hcip : u.cipher = s.cipher := by rw [hu']; exact syncOpen_cipher ..
    have hslot (j : Nat) : u.slotAt j = s.slotAt j := by rw [State.slotAt, hkeys]; rfl
    have hmode : u.mode = s.mode := by rw [hu']; exact syncOpen_mode ..
    have hnext := unitFree_postLoad hn huc hucur hud .wrap (by rwa [hcip]) (by rwa [hcip]) (by rwa [hcip])
      (by rwa [hmode]) ((hslot _).trans hk) hka ((hslot _).trans hw) hwa
    rw [takeOutput_check hc ho ha hop, ← hu, hnext] at hexec
    refine ⟨_, hexec, ?_, ?_, hkeys, ?_, ?_⟩
    · rw [← hc']; exact huc
    · have hinput : (inputOf u (.lane (loadRequest c' (st.kind = .loadDerived)
          { d with cv := some (Config.cipher.check alg key) } .wrap))) = .wrap w.alg (s.slotKey d.tslot) hdr wrapped := by
        simp [inputOf, loadRequest, State.slotAlg, State.slotKey, hslot, hw, hc', hwrapped, hheld]
      rw [pump_cipher, Executing.of, hinput, hcip]
      simp [loadRequest, hc', hheld]
    · rw [pump_accounts, hu']; exact syncOpen_accounts ..
    · rw [pump_lines, hu']; exact syncOpen_lines ..
  · have hbytes : e.input.bytes = data ++ Config.cipher.auth alg transport h data := by rw [hin, hdata]; rfl
    have hzc : (s.modCtx n fun c => { c with heldKey := none, header := none }).ctxAt n =
        some { c with heldKey := none, header := none } := ctxAt_modCtx_self _ _ hn hc
    have hsu : (s.modCtx n fun c => { c with heldKey := none, header := none }).setStage n .frame = u := by
      rw [hu, State.setStage, modCtx_modCtx]
    have huc : u.ctxAt n = some { c with heldKey := none, header := none, stage := .frame } := by
      rw [hu]; exact ctxAt_modCtx_self _ _ hn hc
    have hucip : u.cipher = s.cipher := by rw [hu]; rfl
    have hgo : exec (.cipherOperationComplete intact) s = .next (pump (unitFree (handFrame n .key f.body
        (s.modCtx n fun c => { c with heldKey := none, header := none })))) := by
      rw [hexec, takeOutput_wrap hc ho ha hop, goOn_wait, hch, hbytes, hf]
      rfl
    have hf' : f = { ordinal := c.ordinal, kind := .key, body := f.body } := by rw [hf]
    refine ⟨fun htx => ?_, fun htx => ?_⟩
    · rw [hgo, handFrame_waits .key _ hzc htx, hsu, ← hf', hidle _ ((State.modLine_cipher ..).trans hucip)]
      rfl
    · rw [hgo, handFrame_begins .key _ hzc htx, hsu, ← hf',
        transmitStart_own (c := { c with heldKey := none, header := none, stage := .frame }) (by rwa [ctxAt_modLine])
          (by rw [hf]), if_pos (by rw [hf]), modLine_modLine, modLine_modCtx,
        hidle _ (startDelivery_cipher.trans ((State.modLine_cipher ..).trans ((State.modCtx_cipher ..).trans hucip)))]
      rfl

end Sys2Proof.Machine

namespace Sys2Proof.Machine

/-! ## What run end does, part by part of the state (R129) -/

section
variable (s : State) (n m : Nat)

/-- R64, R65: a number given back touches the accounts alone. -/
theorem returnNumber_eq : (returnNumber n m s).2 = { s with accounts := (returnNumber n m s).2.accounts } := by
  unfold returnNumber; split
  · rfl
  · split <;> rfl

theorem returnAll_eq (l : List Delivery) : (returnAll l s).2 = { s with accounts := (returnAll l s).2.accounts } := by
  induction l generalizing s with
  | nil => rfl
  | cons d l ih =>
    unfold returnAll
    split
    · dsimp only
      rw [ih, returnNumber_eq]
    · exact ih s

section
variable (l : List Delivery)
@[simp] theorem returnAll_lanes : (returnAll l s).2.lanes = s.lanes := by rw [returnAll_eq]
@[simp] theorem returnAll_lines : (returnAll l s).2.lines = s.lines := by rw [returnAll_eq]
@[simp] theorem returnAll_records : (returnAll l s).2.records = s.records := by rw [returnAll_eq]
@[simp] theorem returnAll_cipher : (returnAll l s).2.cipher = s.cipher := by rw [returnAll_eq]
@[simp] theorem returnAll_link : (returnAll l s).2.link = s.link := by rw [returnAll_eq]
end

@[simp] theorem syncOpen_lanes : (syncOpen n s).lanes = s.lanes := by rw [syncOpen_eq]
@[simp] theorem syncOpen_link : (syncOpen n s).link = s.link := by rw [syncOpen_eq]

section
variable (l : Line)
@[simp] theorem raiseNotice_lanes : (raiseNotice l s).lanes = s.lanes := by rw [raiseNotice_eq]
@[simp] theorem raiseNotice_lines : (raiseNotice l s).lines = s.lines := by rw [raiseNotice_eq]
@[simp] theorem raiseNotice_records : (raiseNotice l s).records = s.records := by rw [raiseNotice_eq]
@[simp] theorem raiseNotice_accounts : (raiseNotice l s).accounts = s.accounts := by rw [raiseNotice_eq]
end

section
variable (c : RunContext)
/-- R88: the release of a run's versions touches the plans alone. -/
theorem releaseVersions_eq : releaseVersions n c s = { s with plans := (releaseVersions n c s).plans } := by
  unfold releaseVersions
  dsimp only
  split <;> split <;> rfl
@[simp] theorem releaseVersions_lanes : (releaseVersions n c s).lanes = s.lanes := by rw [releaseVersions_eq]
@[simp] theorem releaseVersions_lines : (releaseVersions n c s).lines = s.lines := by rw [releaseVersions_eq]
@[simp] theorem releaseVersions_records : (releaseVersions n c s).records = s.records := by rw [releaseVersions_eq]
@[simp] theorem releaseVersions_accounts : (releaseVersions n c s).accounts = s.accounts := by rw [releaseVersions_eq]
@[simp] theorem releaseVersions_cipher : (releaseVersions n c s).cipher = s.cipher := by rw [releaseVersions_eq]
@[simp] theorem releaseVersions_link : (releaseVersions n c s).link = s.link := by rw [releaseVersions_eq]

@[simp] theorem markServed_lanes : (markServed n c s).lanes = s.lanes := rfl
@[simp] theorem markServed_records : (markServed n c s).records = s.records := rfl
@[simp] theorem markServed_accounts : (markServed n c s).accounts = s.accounts := rfl
@[simp] theorem markServed_cipher : (markServed n c s).cipher = s.cipher := rfl
@[simp] theorem markServed_link : (markServed n c s).link = s.link := rfl
end

section
variable (o : Outcome) (k : Option Nat) (v : List Tki)
@[simp] theorem closeRecord_lanes : (closeRecord n o k v s).lanes = s.lanes := rfl
@[simp] theorem closeRecord_lines : (closeRecord n o k v s).lines = s.lines := rfl
@[simp] theorem closeRecord_accounts : (closeRecord n o k v s).accounts = s.accounts := rfl
@[simp] theorem closeRecord_cipher : (closeRecord n o k v s).cipher = s.cipher := rfl
@[simp] theorem closeRecord_link : (closeRecord n o k v s).link = s.link := rfl
end

/-- R129 step 1: the step timer stops, the context keeps no key and no header, the line expects no reply and has no frame
waiting, and a waiting request is withdrawn. -/
theorem stopRun_eq : stopRun n s = withdraw n ((s.modLane n fun l =>
    { l with timer := none, ctx := l.ctx.map fun c => { c with heldKey := none, header := none } }).modLine n fun l =>
    { l with expected := none, next := none }) := by
  have h (u : State) (f : BenchLine → BenchLine) (g : Lane → Lane) :
      (u.modLine n f).modLane n g = (u.modLane n g).modLine n f := rfl
  rw [stopRun, clearAwait, State.modCtx, State.setTimer, h, modLane_modLane, modLine_modLine]

@[simp] theorem stopRun_records : (stopRun n s).records = s.records := by rw [stopRun_eq]; rfl
@[simp] theorem stopRun_accounts : (stopRun n s).accounts = s.accounts := by rw [stopRun_eq]; rfl
@[simp] theorem stopRun_link : (stopRun n s).link = s.link := by rw [stopRun_eq]; rfl
@[simp] theorem stopRun_cipher : (stopRun n s).cipher = (withdraw n s).cipher := by rw [stopRun_eq]; rfl

theorem stopRun_laneAt : (stopRun n s).laneAt m = if n = m ∧ n < 8 then
    { s.laneAt n with
      timer := none, ctx := (s.laneAt n).ctx.map fun c => { c with heldKey := none, header := none } }
    else s.laneAt m := by
  rw [stopRun_eq]
  have h (u : State) (f : BenchLine → BenchLine) : (withdraw n (u.modLine n f)).laneAt m = u.laneAt m := rfl
  rw [h, laneAt_modLane]

theorem stopRun_lineAt : (stopRun n s).lineAt m =
    if n = m ∧ n < 8 then { s.lineAt n with expected := none, next := none } else s.lineAt m := by
  rw [stopRun_eq]
  have h (u : State) : (withdraw n u).lineAt m = u.lineAt m := rfl
  rw [h, lineAt_modLine]
  rfl

/-- R165: what is written into the OPEN entries depends on the records and the lane alone. -/
theorem syncOpen_records_congr {s t : State} (hl : t.lanes = s.lanes) (hr : t.records = s.records) :
    (syncOpen n t).records = (syncOpen n s).records := by
  have hlane : t.laneAt n = s.laneAt n := by rw [State.laneAt, hl]; rfl
  unfold syncOpen
  rw [hlane]
  split
  · exact hr
  · simp only [State.modOpen, hr]

/-- R179: where a notice goes depends on the port and on whether the module starts up. -/
theorem raiseNotice_link_congr {s t : State} {l : Line} (hl : t.link = s.link) (hs : t.startUp = s.startUp) :
    (raiseNotice l t).link = (raiseNotice l s).link := by
  rcases raiseNotice_cases l s with ⟨h1, h⟩ | ⟨h1, h2, h⟩ | ⟨h1, h2, h⟩ <;> rw [h] <;> unfold raiseNotice
  · rw [if_pos (by rwa [hs]), hl]
  · rw [if_neg (by simp [hs, h1]), if_pos (by rwa [hl]), hl]
  · rw [if_neg (by simp [hs, h1]), if_neg (by rw [hl]; omega), hl]

end

section
variable {s : State} {n : Nat} {c : RunContext} (stop : RunStop) (hc : s.ctxAt n = some c)
include hc

/-- R129 step 8, R131: the lane is IDLE, without a context, with what is left of its queue. -/
theorem runEnd_laneAt (m : Nat) : (runEnd n stop s).laneAt m = if n = m ∧ n < 8 then
    { s.laneAt n with
      timer := none, queue := queueAfter stop.1 c.abortPending (s.laneAt n).queue, ctx := none, state := .idle }
    else s.laneAt m := by
  have h : (runEnd n stop s).laneAt m = ((stopRun n s).modLane n fun l =>
      { l with queue := queueAfter stop.1 c.abortPending l.queue, ctx := none, state := .idle }).laneAt m := by
    simp [runEnd, hc, State.laneAt, State.modLane, State.setLane]
  rw [h, laneAt_modLane]
  by_cases hm : n = m ∧ n < 8
  · rw [if_pos hm, if_pos hm, stopRun_laneAt, if_pos ⟨rfl, hm.2⟩]
  · rw [if_neg hm, if_neg hm, stopRun_laneAt, if_neg hm]

/-- R129 steps 1 and 6: the line. -/
theorem runEnd_lineAt (m : Nat) : (runEnd n stop s).lineAt m = if n = m ∧ n < 8 then
    { s.lineAt n with
      expected := none, next := none
      served := if c.frameSent && (s.lineAt n).presence then true else (s.lineAt n).served }
    else s.lineAt m := by
  have h : (runEnd n stop s).lineAt m = (markServed n c (stopRun n s)).lineAt m := by
    simp [runEnd, hc, State.lineAt, markServed, State.modLine, State.setLine]
  rw [h, markServed, lineAt_modLine]
  by_cases hm : n = m ∧ n < 8
  · have hself : (stopRun n s).lineAt n = { s.lineAt n with expected := none, next := none } := by
      rw [stopRun_lineAt]; exact if_pos ⟨rfl, hm.2⟩
    rw [if_pos hm, if_pos hm, hself]
    dsimp only
    by_cases hs : (c.frameSent && (s.lineAt n).presence) = true
    · rw [if_pos hs, if_pos hs]
    · rw [if_neg hs, if_neg hs]
  · rw [if_neg hm, if_neg hm, stopRun_lineAt, if_neg hm]

/-- R129 steps 2 and 4, R166: the OPEN entry is brought up to date and closed. -/
theorem runEnd_records : (runEnd n stop s).records = (closeRecord n stop.1 (failStepOf stop.1 stop.2 c)
    (returnAll c.deliveries (stopRun n s)).1 (syncOpen n (stopRun n s))).records := by
  simp only [runEnd, hc, State.modLane_records, raiseNotice_records, markServed_records, releaseVersions_records,
    closeRecord, State.modOpen]
  rw [syncOpen_records_congr n (s := stopRun n s) (by simp) (by simp)]

theorem runEnd_accounts : (runEnd n stop s).accounts = (returnAll c.deliveries (stopRun n s)).2.accounts := by
  simp [runEnd, hc]

theorem runEnd_cipher : (runEnd n stop s).cipher = (withdraw n s).cipher := by simp [runEnd, hc]

/-- R129 step 7: RUN-END. -/
theorem runEnd_link : (runEnd n stop s).link = (raiseNotice (runEndLine n (s.laneAt n).queue.head? c stop.1) s).link := by
  obtain ⟨u, hu, hr⟩ : ∃ u : State, (u.link = s.link ∧ u.startUp = s.startUp) ∧
      (runEnd n stop s).link = (raiseNotice (runEndLine n (s.laneAt n).queue.head? c stop.1) u).link := by
    simp only [runEnd, hc]
    refine ⟨_, ⟨?_, ?_⟩, rfl⟩
    · simp
    · refine congrArg (fun o => o.2.2.2.2.2.2.2.2.1) (?_ : State.outside _ = s.outside)
      simp [releaseVersions_outside, returnAll_outside]
  rw [hr, raiseNotice_link_congr hu.1 hu.2]

end

end Sys2Proof.Machine

namespace Sys2Proof.Machine

/-! ## The settings that are kept for good (R24, R52, R89, R104, R133, R149, R188) -/

/-- What is non-volatile: the settings of each unit, and of each entry of the Record Queue the fields that are written
at its reservation. -/
def State.settings (s : State) :=
  (s.auth.dualWindow, s.asm.policy, s.keys.scrubInterval, s.windows, s.defaultRoute,
    (fun n => ((s.laneAt n).online, (s.laneAt n).ordinal)),
    (fun n => ((s.lineAt n).rate, (s.lineAt n).parity)),
    (fun n => ((s.planAt n).installed, (s.planAt n).counter)),
    s.records.entries.map fun r => (r.lane, r.ordinal, r.tag, r.iteration, r.plan))

section
variable (s : State) (n : Nat)

/-- A plan that is replaced by one of the same installed version and counter. -/
theorem setPlan_settings {p : Plan} (h1 : p.installed = (s.planAt n).installed) (h2 : p.counter = (s.planAt n).counter) :
    (s.setPlan n p).settings = s.settings := by
  have h (m : Nat) := view_put (fun p : Plan => (p.installed, p.counter)) (t := s.plans) (i := n) (x := p)
    (d := .factory) (by rw [h1, h2]; rfl) m
  simp only [State.settings]
  exact congrArg (fun f => (_, _, _, _, _, _, _, f, _)) (funext h)

theorem modLane_settings {f : Lane → Lane}
    (h : ∀ l, (f l).online = l.online ∧ (f l).ordinal = l.ordinal := by exact fun _ => ⟨rfl, rfl⟩) :
    (s.modLane n f).settings = s.settings := by
  have h (m : Nat) := view_put (fun l : Lane => (l.online, l.ordinal)) (t := s.lanes) (i := n) (x := f (s.laneAt n))
    (d := .down false 0) (by rw [(h _).1, (h _).2]; rfl) m
  simp only [State.settings]
  exact congrArg (fun f => (_, _, _, _, _, f, _)) (funext h)

theorem modLine_settings {f : BenchLine → BenchLine}
    (h : ∀ l, (f l).rate = l.rate ∧ (f l).parity = l.parity := by exact fun _ => ⟨rfl, rfl⟩) :
    (s.modLine n f).settings = s.settings := by
  have h (m : Nat) := view_put (fun l : BenchLine => (l.rate, l.parity)) (t := s.lines) (i := n) (x := f (s.lineAt n))
    (d := .down .r9600 .none false) (by rw [(h _).1, (h _).2]; rfl) m
  simp only [State.settings]
  exact congrArg (fun f => (_, _, _, _, _, _, f, _)) (funext h)

theorem modOpen_settings {f : Record → Record} (h : ∀ r, ((f r).lane, (f r).ordinal, (f r).tag, (f r).iteration,
    (f r).plan) = (r.lane, r.ordinal, r.tag, r.iteration, r.plan)) : (s.modOpen n f).settings = s.settings := by
  have hentries : (s.modOpen n f).records.entries.map (fun r => (r.lane, r.ordinal, r.tag, r.iteration, r.plan)) =
      s.records.entries.map fun r => (r.lane, r.ordinal, r.tag, r.iteration, r.plan) := by
    rw [State.modOpen, List.map_map]
    refine List.map_congr_left fun r _ => ?_
    dsimp only [Function.comp_apply]
    split
    · exact h r
    · rfl
  simp only [State.settings, hentries]
  rfl

@[simp] theorem modCtx_settings (f : RunContext → RunContext) : (s.modCtx n f).settings = s.settings :=
  modLane_settings s n

@[simp] theorem syncOpen_settings : (syncOpen n s).settings = s.settings := by
  unfold syncOpen
  split
  · rfl
  · exact modOpen_settings s n fun _ => rfl

@[simp] theorem raiseNotice_settings (l : Line) : (raiseNotice l s).settings = s.settings := by
  rw [raiseNotice_eq]; rfl
@[simp] theorem raiseMessage_settings (l : Line) : (raiseMessage l s).settings = s.settings := by
  rw [raiseMessage_eq]; rfl
@[simp] theorem raiseBoth_settings (l : Line) : (raiseBoth l s).settings = s.settings := by
  rw [raiseBoth_eq]; rfl
@[simp] theorem returnAll_settings (l : List Delivery) : (returnAll l s).2.settings = s.settings := by
  rw [returnAll_eq]; rfl
@[simp] theorem releaseLane_settings : (releaseLane n s).settings = s.settings := rfl
@[simp] theorem leaveWaiting_settings : (leaveWaiting n s).settings = s.settings := rfl

@[simp] theorem releaseVersion_settings (p v : Nat) : (releaseVersion n p v s).settings = s.settings := by
  refine setPlan_settings s p ?_ ?_ <;> unfold Plan.release <;> split
  · rfl
  · split <;> rfl
  · rfl
  · split <;> rfl

@[simp] theorem releaseVersions_settings (c : RunContext) : (releaseVersions n c s).settings = s.settings := by
  unfold releaseVersions
  dsimp only
  split <;> split <;> simp

@[simp] theorem markServed_settings (c : RunContext) : (markServed n c s).settings = s.settings :=
  modLine_settings s n fun _ => by split <;> exact ⟨rfl, rfl⟩

@[simp] theorem stopRun_settings : (stopRun n s).settings = s.settings := by
  rw [stopRun_eq]
  have h (u : State) : (withdraw n u).settings = u.settings := rfl
  exact (h _).trans ((modLine_settings _ n).trans (modLane_settings s n))

@[simp] theorem closeRecord_settings (o : Outcome) (k : Option Nat) (v : List Tki) :
    (closeRecord n o k v s).settings = s.settings := modOpen_settings s n fun _ => rfl

/-! ### The tamper event -/

@[simp] theorem runEnd_settings (stop : RunStop) : (runEnd n stop s).settings = s.settings := by
  unfold runEnd
  split
  · rfl
  · dsimp only
    refine (modLane_settings _ n).trans ?_
    simp

@[simp] theorem endDelivery_settings (p : DeliveryPhase) (r : Option Refuse) :
    (endDelivery n p r s).settings = s.settings := by
  unfold endDelivery
  split
  · rfl
  · split
    · simp [State.modDelivery]
    · rfl

@[simp] theorem tamperLane_settings : (tamperLane n s).settings = s.settings := by
  unfold tamperLane
  split
  · simp
  · exact (modLane_settings _ n).trans (leaveWaiting_settings s n)
  · rfl
  · rfl

@[simp] theorem tamperLine_settings : (tamperLine n s).settings = s.settings :=
  modLine_settings s n fun l => by split <;> exact ⟨rfl, rfl⟩

theorem tamperLanes_settings : (tamperLanes s).settings = s.settings := by
  unfold tamperLanes
  generalize List.range 8 = l
  induction l generalizing s with
  | nil => rfl
  | cons n l ih => rw [List.foldl_cons, ih]; simp

theorem tamperEvent_settings : (tamperEvent s).settings = s.settings := by
  have hauth (b : AuthState) (u : State) : (tamperAuth b u).settings = u.settings := by
    unfold tamperAuth; split <;> simp
  have hasm (b : Option Assembly) (u : State) : (tamperAssembly b u).settings = u.settings := by
    unfold tamperAssembly; split <;> simp
  have horders : (tamperOrders s).settings = s.settings := rfl
  unfold tamperEvent
  split
  · rfl
  · simp [tamperLanes_settings, hauth, hasm, horders]

theorem tamperPowerOff_settings : (tamperPowerOff s).settings = s.settings := by
  unfold tamperPowerOff; split <;> rfl

/-! ### Power and start-up -/

theorem withoutVolatile_settings : s.withoutVolatile.settings = s.settings := by
  have hlane (n : Nat) : s.withoutVolatile.laneAt n = Lane.down (s.laneAt n).online (s.laneAt n).ordinal :=
    look_map s.lanes (fun l => Lane.down l.online l.ordinal) (.down false 0) n
  have hline (n : Nat) : s.withoutVolatile.lineAt n =
      BenchLine.down (s.lineAt n).rate (s.lineAt n).parity (s.lineAt n).contact :=
    look_map s.lines (fun l => BenchLine.down l.rate l.parity l.contact) (.down .r9600 .none false) n
  have hplan (n : Nat) : s.withoutVolatile.planAt n = (s.planAt n).restarted := look_map s.plans Plan.restarted .factory n
  simp only [State.settings, hlane, hline, hplan]
  rfl

theorem powerLoss_settings : (powerLoss s).settings = s.settings := by
  unfold powerLoss
  split
  · exact withoutVolatile_settings s
  · rfl

theorem reportOff_settings : (reportOff s).settings = s.settings := by
  unfold reportOff
  split
  · rfl
  · exact raiseNotice_settings ..

theorem powerOn_settings : (powerOn s).settings = s.settings := by
  unfold powerOn
  split
  · rfl
  · dsimp only
    rw [reportOff_settings]
    exact withoutVolatile_settings s

theorem startUpAfterRestart_settings : (startUpAfterRestart s).settings = s.settings := by
  unfold startUpAfterRestart; split <;> rfl

/-- R189: the entries resolved keep what was written at their reservation, and the state beside the accounts is as it
was. -/
theorem resolveRecords_settings (l : List Record) :
    (resolveRecords l s).2.settings = s.settings ∧
      (resolveRecords l s).1.map (fun r => (r.lane, r.ordinal, r.tag, r.iteration, r.plan)) =
        l.map fun r => (r.lane, r.ordinal, r.tag, r.iteration, r.plan) := by
  induction l generalizing s with
  | nil => exact ⟨rfl, rfl⟩
  | cons r l ih =>
    have h : (resolveRecord r s).2.settings = s.settings ∧ ((resolveRecord r s).1.lane, (resolveRecord r s).1.ordinal,
        (resolveRecord r s).1.tag, (resolveRecord r s).1.iteration, (resolveRecord r s).1.plan) =
          (r.lane, r.ordinal, r.tag, r.iteration, r.plan) := by
      unfold resolveRecord
      split
      · exact ⟨rfl, rfl⟩
      · exact ⟨returnAll_settings .., rfl⟩
    obtain ⟨h1, h2⟩ := ih (resolveRecord r s).2
    refine ⟨h1.trans h.1, ?_⟩
    simp only [resolveRecords, List.map_cons, h2, h.2]

theorem settleStores_settings : (settleStores s).settings = s.settings := by
  obtain ⟨h1, h2⟩ := resolveRecords_settings s s.records.entries
  have hplan (n : Nat) : (settleStores s).planAt n = ((resolveRecords s.records.entries s).2.planAt n).restarted :=
    look_map _ Plan.restarted .factory n
  simp only [State.settings, Prod.mk.injEq] at h1 ⊢
  obtain ⟨hdual, hpolicy, hscrub, hwindows, hdefault, hlanes, hlines, hplans, -⟩ := h1
  exact ⟨hdual, hpolicy, hscrub, hwindows, hdefault, hlanes, hlines, by simp only [hplan]; exact hplans, h2⟩

/-- R188 step 5: a lane and its line as they come up. -/
theorem bringUp_laneAt (m : Mode) : (bringUp m s).laneAt n = Lane.up m (s.laneAt n) := by
  have hd : Lane.up m (.down false 0) = .down false 0 := rfl
  exact (congrArg (look _ · n) hd).symm.trans (look_map s.lanes (Lane.up m) (.down false 0) n)

theorem look_zipWith {n : Nat} {α β γ : Type} (f : α → β → γ) (a : Table n α) (b : Table n β) (x : α) (y : β) (i : Nat) :
    look (Vector.zipWith f a b : Table n γ) (f x y) i = f (look a x i) (look b y i) := by
  unfold look
  by_cases h : i < n
  · simp [Vector.getElem?_eq_getElem h]
  · simp [Vector.getElem?_eq_none (show n ≤ i by omega)]

theorem bringUp_lineAt (m : Mode) :
    (bringUp m s).lineAt n = BenchLine.up (Lane.up m (s.laneAt n)).state (s.lineAt n) := by
  have hd : BenchLine.up (Lane.up m (.down false 0)).state (.down .r9600 .none false) = .down .r9600 .none false := rfl
  refine (congrArg (look _ · n) hd).symm.trans ?_
  refine (look_zipWith (fun l x => BenchLine.up l.state x) (s.lanes.map (Lane.up m)) s.lines _ _ n).trans ?_
  rw [look_map]
  rfl

theorem bringUp_settings (m : Mode) : (bringUp m s).settings = s.settings := by
  simp only [State.settings, bringUp_laneAt, bringUp_lineAt]
  rfl

theorem announce_settings (c : StartCause) (m : Mode) (k : Nat) : (announce c m k s).settings = s.settings := by
  have raised (l : List Line) : ∀ u : State, (l.foldl (fun t l => raiseNotice l t) u).settings = u.settings := by
    induction l with
    | nil => exact fun _ => rfl
    | cons x l ih => exact fun u => (ih _).trans (raiseNotice_settings u x)
  exact raised s.link.hold _

theorem announce_lanes (c : StartCause) (m : Mode) (k : Nat) : (announce c m k s).lanes = s.lanes := by
  have raised (l : List Line) : ∀ u : State, (l.foldl (fun t l => raiseNotice l t) u).lanes = u.lanes := by
    induction l with
    | nil => exact fun _ => rfl
    | cons x l ih => exact fun u => (ih _).trans (raiseNotice_lanes u x)
  exact raised s.link.hold _

/-- R19: the arbiter's turns touch the Cipher Unit alone. -/
theorem serveRequester_cipher (q : Nat) (r : CipherRequest) :
    ∃ u, (serveRequester q r s).1 = { s with cipher := u } := by
  unfold serveRequester
  dsimp only
  split <;> exact ⟨_, rfl⟩

theorem serveWaiting_cipher (k : Nat) : ∃ u, (serveWaiting k s).1 = { s with cipher := u } := by
  induction k generalizing s with
  | zero => exact ⟨_, rfl⟩
  | succ k ih =>
    unfold serveWaiting
    split
    · split
      · exact ⟨_, rfl⟩
      · rename_i q req _
        obtain ⟨u, hu⟩ := serveRequester_cipher s q req
        split <;> rename_i hs <;> rw [hs] at hu <;> dsimp only at hu <;> subst hu
        · exact ⟨u, rfl⟩
        · exact ih { s with cipher := u }
        · dsimp only
          split <;> exact ih { s with cipher := u }
    · exact ⟨_, rfl⟩

/-- R122: a KEY-FAULT reaches no run where none is current. -/
theorem keyFaults_none (l : List FaultNote) (h : ∀ q, s.ctxAt q = none) : keyFaults l s = s := by
  induction l with
  | nil => rfl
  | cons f l ih =>
    obtain ⟨q, o, n⟩ := f
    rw [keyFaults, h q, if_neg (by simp)]
    exact ih

theorem unitFree_settings (h : ∀ q, s.ctxAt q = none) : (unitFree s).settings = s.settings := by
  obtain ⟨u, hu⟩ := serveWaiting_cipher { s with cipher := { s.cipher with executing := none } } 10
  have hk (l : List FaultNote) : keyFaults l { s with cipher := u } = { s with cipher := u } := keyFaults_none _ l h
  unfold unitFree
  dsimp only
  rw [hu, hk]
  rfl

theorem selfTestComplete_settings (a b c d : Bool) : (selfTestComplete a b c d s).settings = s.settings := by
  have hup {cause m k} : (announce cause m k (bringUp m (settleStores s))).settings = s.settings := by
    rw [announce_settings, bringUp_settings, settleStores_settings]
  unfold selfTestComplete
  split
  · rfl
  · split
    · rfl
    · unfold unitTested
      dsimp only
      split
      · rw [unitFree_settings]
        · exact hup
        · intro q
          change (announce _ _ _ (bringUp _ (settleStores s))).ctxAt q = none
          rw [State.ctxAt, State.laneAt, announce_lanes]
          change ((bringUp _ (settleStores s)).laneAt q).ctx = none
          rw [bringUp_laneAt]
          rfl
      · exact hup

end

/-- Settles O58: each of the six events keeps the settings. -/
theorem nonVolatileKept : Obligations.NonVolatileKept := by
  intro s t c hc h
  obtain ⟨u, hu, hkept⟩ : ∃ u, exec c s = .next (pump u) ∧ u.settings = s.settings := by
    rcases hc with hc | ⟨a, b, d, e, rfl⟩
    · fin_cases hc
      · exact ⟨_, rfl, tamperEvent_settings s⟩
      · exact ⟨_, rfl, tamperPowerOff_settings s⟩
      · exact ⟨_, rfl, powerLoss_settings s⟩
      · exact ⟨_, rfl, powerOn_settings s⟩
      · exact ⟨_, rfl, startUpAfterRestart_settings s⟩
    · exact ⟨_, rfl, selfTestComplete_settings s a b d e⟩
  obtain rfl : pump u = t := by rw [hu] at h; injection h
  have hpump : (pump u).settings = s.settings := hkept
  simp only [State.settings, Prod.mk.injEq, funext_iff] at hpump
  obtain ⟨h1, h2, h3, h4, h5, h6, h7, h8, h9⟩ := hpump
  exact ⟨h1, h2, h3, h4, h5, fun n => ⟨(h6 n).1, (h6 n).2, (h7 n).1, (h7 n).2, (h8 n).1, (h8 n).2⟩, h9⟩

end Sys2Proof.Machine

namespace Sys2Proof.Machine

/-! ## A tamper event at a lane and its line (R132, R140): O54 -/

/-! ### The OPEN entry of a lane -/

/-- The OPEN entries of a lane rewritten. -/
def rewriteOpen (n : Nat) (f : Record → Record) (l : List Record) : List Record :=
  l.map fun r => if isOpenOf n r then f r else r

theorem modOpen_entries (s : State) (n : Nat) (f : Record → Record) :
    (s.modOpen n f).records.entries = rewriteOpen n f s.records.entries := rfl

theorem rewriteOpen_rewriteOpen {n : Nat} {f : Record → Record} (g : Record → Record) (l : List Record)
    (h : ∀ r, isOpenOf n (f r) = isOpenOf n r) :
    rewriteOpen n g (rewriteOpen n f l) = rewriteOpen n (fun r => g (f r)) l := by
  rw [rewriteOpen, rewriteOpen, List.map_map, rewriteOpen]
  refine List.map_congr_left fun r _ => ?_
  dsimp only [Function.comp_apply]
  by_cases ho : isOpenOf n r = true
  · rw [if_pos ho, if_pos (by rw [h, ho]), if_pos ho]
  · rw [if_neg ho, if_neg ho, if_neg ho]

/-- An entry that is no OPEN entry of the lane. -/
theorem rewriteOpen_other {n i : Nat} {f : Record → Record} {l : List Record} {r : Record} (hr : l[i]? = some r)
    (h : isOpenOf n r = false) : (rewriteOpen n f l)[i]? = some r := by
  simp [rewriteOpen, hr, h]

theorem rewriteOpen_open {n i : Nat} {f : Record → Record} {l : List Record} {r : Record} (hr : l[i]? = some r)
    (h : isOpenOf n r = true) : (rewriteOpen n f l)[i]? = some (f r) := by
  simp [rewriteOpen, hr, h]

/-- R113, R165: what a lane writes into its OPEN entry keeps the fields written at its reservation. -/
theorem syncOpen_entries (n : Nat) (s : State) : ∃ f : Record → Record,
    (syncOpen n s).records.entries = rewriteOpen n f s.records.entries ∧
    ∀ r, (f r).lane = r.lane ∧ (f r).ordinal = r.ordinal ∧ (f r).closed = r.closed := by
  unfold syncOpen
  split
  · exact ⟨id, by simp [rewriteOpen], fun _ => ⟨rfl, rfl, rfl⟩⟩
  · exact ⟨_, rfl, fun _ => ⟨rfl, rfl, rfl⟩⟩

/-- R166: an entry closed at a run end. -/
structure Record.ClosedAs (o : Outcome) (k : Option Nat) (r r' : Record) : Prop where
  closed : r'.closed = true
  outcome : r'.outcome = some o
  lane : r'.lane = r.lane
  ordinal : r'.ordinal = r.ordinal
  failStep : r'.failStep = k

/-- R129 step 4, R166: the lane's OPEN entry is closed at the run end. -/
theorem runEnd_entries {s : State} {n : Nat} {c : RunContext} (stop : RunStop) (hc : s.ctxAt n = some c) :
    ∃ f : Record → Record, (runEnd n stop s).records.entries = rewriteOpen n f s.records.entries ∧
      ∀ r, Record.ClosedAs stop.1 (failStepOf stop.1 stop.2 c) r (f r) := by
  obtain ⟨g, hsync, hg⟩ := syncOpen_entries n (stopRun n s)
  rw [stopRun_records] at hsync
  rw [runEnd_records stop hc, closeRecord, modOpen_entries, hsync, rewriteOpen_rewriteOpen]
  · exact ⟨_, rfl, fun r => ⟨rfl, rfl, (hg r).1, (hg r).2.1, rfl⟩⟩
  · intro r
    rw [isOpenOf, (hg r).1, (hg r).2.2]
    rfl

/-! ### The end of the delivery (R124) -/

theorem modLane_self (s : State) (n : Nat) : (s.modLane n fun l => l) = s := by
  have h : put s.lanes n (s.laneAt n) = s.lanes := put_look rfl
  rw [State.modLane, State.setLane, h]

/-- R124: a delivery end touches the run context, and through it the lane's OPEN entry. -/
theorem endDelivery_eq (n : Nat) (p : DeliveryPhase) (w : Option Refuse) (s : State) :
    ∃ f : RunContext → RunContext,
      endDelivery n p w s = { s.modCtx n f with records := (endDelivery n p w s).records } := by
  have hid : s.modCtx n id = s := by simpa [State.modCtx] using modLane_self s n
  unfold endDelivery
  split
  · exact ⟨id, by rw [hid]⟩
  · split
    · exact ⟨_, syncOpen_eq ..⟩
    · exact ⟨id, by rw [hid]⟩

theorem endDelivery_entries (n : Nat) (p : DeliveryPhase) (w : Option Refuse) (s : State) : ∃ f : Record → Record,
    (endDelivery n p w s).records.entries = rewriteOpen n f s.records.entries ∧
    ∀ r, (f r).lane = r.lane ∧ (f r).ordinal = r.ordinal ∧ (f r).closed = r.closed := by
  have hid : s.records.entries = rewriteOpen n id s.records.entries := by simp [rewriteOpen]
  unfold endDelivery
  split
  · exact ⟨id, hid, fun _ => ⟨rfl, rfl, rfl⟩⟩
  · split
    · exact syncOpen_entries n (s.modCtx n _)
    · exact ⟨id, hid, fun _ => ⟨rfl, rfl, rfl⟩⟩

/-! ### What a tamper event gives back and tells -/

/-- R64: no number is given back where there is no account. -/
theorem returnAll_none (l : List Delivery) (s : State) (h : ∀ n, s.accountAt n = none) : (returnAll l s).2 = s := by
  induction l with
  | nil => rfl
  | cons d l ih =>
    unfold returnAll
    split
    · simp only [returnNumber, h, ih]
    · exact ih

/-- R23: a withdrawal where nothing waits. -/
theorem withdraw_none {s : State} {q : Nat} (h : look s.cipher.waiting none q = none) : withdraw q s = s := by
  rw [withdraw, put_look h]

/-- R131, R132: nothing is left of the queue. -/
theorem queueAfter_tamper (b : Bool) (l : List RunRequest) : queueAfter .tamper b l = [] := by
  cases l with
  | nil => rfl
  | cons q l => simp [queueAfter]

/-- The port as notices are raised: the line that is being sent stays, and the notices that wait keep their places. -/
def LinkPort.Grows (a b : LinkPort) : Prop := b.sending = a.sending ∧ a.notices <+: b.notices

theorem LinkPort.Grows.refl (a : LinkPort) : a.Grows a := ⟨rfl, List.prefix_rfl⟩
theorem LinkPort.Grows.trans {a b c : LinkPort} (h : a.Grows b) (h' : b.Grows c) : a.Grows c :=
  ⟨h'.1.trans h.1, h.2.trans h'.2⟩

theorem raiseNotice_grows (l : Line) (s : State) : s.link.Grows (raiseNotice l s).link := by
  rcases raiseNotice_cases l s with ⟨-, h⟩ | ⟨-, -, h⟩ | ⟨-, -, h⟩ <;> rw [h]
  · exact .refl _
  · exact ⟨rfl, List.prefix_append _ _⟩
  · exact .refl _

/-! ### What a tamper event at one lane leaves -/

/-- What stays as the tamper event goes through lane `n`, with no account left and nothing waiting for the unit. -/
structure TamperFrame (n : Nat) (s t : State) : Prop where
  outside : t.outside = s.outside
  keys : s.keys.Moves t.keys
  accounts : t.accounts = s.accounts
  cipher : t.cipher = s.cipher
  link : s.link.Grows t.link
  lanes : ∀ m, m ≠ n → t.laneAt m = s.laneAt m
  lines : ∀ m, m ≠ n → t.lineAt m = s.lineAt m

theorem TamperFrame.refl (n : Nat) (s : State) : TamperFrame n s s :=
  ⟨rfl, .refl _, rfl, rfl, .refl _, fun _ _ => rfl, fun _ _ => rfl⟩

theorem TamperFrame.trans {n : Nat} {s t u : State} (h : TamperFrame n s t) (h' : TamperFrame n t u) :
    TamperFrame n s u where
  outside := h'.outside.trans h.outside
  keys := h.keys.trans h'.keys
  accounts := h'.accounts.trans h.accounts
  cipher := h'.cipher.trans h.cipher
  link := h.link.trans h'.link
  lanes m hm := (h'.lanes m hm).trans (h.lanes m hm)
  lines m hm := (h'.lines m hm).trans (h.lines m hm)

theorem modLane_frame (n : Nat) (f : Lane → Lane) (s : State) : TamperFrame n s (s.modLane n f) :=
  { TamperFrame.refl n s with
    lanes := fun m hm => (laneAt_modLane s n m f).trans (if_neg fun h => hm h.1.symm) }

theorem modLine_frame (n : Nat) (f : BenchLine → BenchLine) (s : State) : TamperFrame n s (s.modLine n f) :=
  { TamperFrame.refl n s with
    lines := fun m hm => (lineAt_modLine s n m f).trans (if_neg fun h => hm h.1.symm) }

theorem tamperLine_frame (n : Nat) (s : State) : TamperFrame n s (tamperLine n s) := by
  unfold tamperLine
  exact modLine_frame n _ s

theorem endDelivery_frame (n : Nat) (p : DeliveryPhase) (w : Option Refuse) (s : State) :
    TamperFrame n s (endDelivery n p w s) := by
  obtain ⟨f, hf⟩ := endDelivery_eq n p w s
  have h : TamperFrame n s (s.modCtx n f) := modLane_frame n _ s
  rw [hf]
  exact { h with }

theorem runEnd_frame {n : Nat} {s : State} {c : RunContext} (stop : RunStop) (hc : s.ctxAt n = some c)
    (ha : ∀ n, s.accountAt n = none) (hw : look s.cipher.waiting none n = none) :
    TamperFrame n s (runEnd n stop s) where
  outside := runEnd_outside n stop s
  keys := runEnd_moves n stop s
  accounts := by
    have h : ∀ k, (stopRun n s).accountAt k = none := fun k => by rw [State.accountAt, stopRun_accounts]; exact ha k
    rw [runEnd_accounts stop hc, returnAll_none _ _ h, stopRun_accounts]
  cipher := by rw [runEnd_cipher stop hc, withdraw_none hw]
  link := by
    rw [runEnd_link stop hc]
    exact raiseNotice_grows ..
  lanes m hm := by rw [runEnd_laneAt stop hc, if_neg fun h => hm h.1.symm]
  lines m hm := by rw [runEnd_lineAt stop hc, if_neg fun h => hm h.1.symm]

/-! ### One lane and its line -/

section
variable {s : State} {n : Nat}

/-- R132: a RUNNING lane's run context, once its delivery has ended. -/
theorem endDelivery_ctxAt (hn : n < 8) (p : DeliveryPhase) (w : Option Refuse) (hc : (s.ctxAt n).isSome) :
    ∃ c, (endDelivery n p w s).ctxAt n = some c := by
  obtain ⟨f, hf⟩ := endDelivery_eq n p w s
  obtain ⟨c, hc⟩ := Option.isSome_iff_exists.1 hc
  exact ⟨f c, by rw [hf]; exact ctxAt_modCtx_self s n hn hc⟩

/-- R132: the lane, its run ended, or its waiting head gone. -/
theorem tamperLane_frame (hn : n < 8) (hc : (s.laneAt n).state = .running → (s.ctxAt n).isSome)
    (ha : ∀ n, s.accountAt n = none) (hw : look s.cipher.waiting none n = none) :
    TamperFrame n s (tamperLane n s) := by
  unfold tamperLane
  split
  · rename_i hs
    obtain ⟨c, hc⟩ := endDelivery_ctxAt hn .unanswered none (hc hs)
    have h := endDelivery_frame n .unanswered none s
    refine h.trans (runEnd_frame _ hc (fun k => ?_) (by rw [h.cipher, hw]))
    rw [State.accountAt, h.accounts]
    exact ha k
  · have h : TamperFrame n s (leaveWaiting n s) := { TamperFrame.refl n s with }
    exact h.trans (modLane_frame n _ _)
  · exact .refl n s
  · exact .refl n s

/-- R132: the lane. -/
theorem tamperLane_laneAt (hn : n < 8) (hc : (s.laneAt n).state = .running → (s.ctxAt n).isSome) :
    ((tamperLane n s).laneAt n).state = (if (s.laneAt n).state = .offline then .offline else .idle) ∧
      ((s.laneAt n).state = .running → ((tamperLane n s).laneAt n).ctx = none ∧
        ((tamperLane n s).laneAt n).queue = [] ∧ ((tamperLane n s).lineAt n).expected = none) ∧
      ((s.laneAt n).state = .held → ((tamperLane n s).laneAt n).queue = []) := by
  unfold tamperLane
  split <;> rename_i hs
  · obtain ⟨c, hc⟩ := endDelivery_ctxAt hn .unanswered none (hc hs)
    simp [hs, hn, runEnd_laneAt _ hc, runEnd_lineAt _ hc, queueAfter_tamper]
  · simp [hs, hn, laneAt_modLane]
  · simp [hs]
  · simp [hs]

/-- R132, R166: the Record Queue. -/
theorem tamperLane_entries (hn : n < 8) (hc : (s.laneAt n).state = .running → (s.ctxAt n).isSome) :
    ∃ f : Record → Record, (tamperLane n s).records.entries = rewriteOpen n f s.records.entries ∧
      ((s.laneAt n).state = .running → ∀ r, Record.ClosedAs .tamper none r (f r)) := by
  have hid : s.records.entries = rewriteOpen n id s.records.entries := by simp [rewriteOpen]
  unfold tamperLane
  split <;> rename_i hs
  · obtain ⟨c, hc⟩ := endDelivery_ctxAt hn .unanswered none (hc hs)
    obtain ⟨f, hf, hfr⟩ := endDelivery_entries n .unanswered none s
    obtain ⟨g, hg, hgr⟩ := runEnd_entries (.tamper, none) hc
    refine ⟨fun r => g (f r), ?_, fun _ r => ?_⟩
    · rw [hg, hf, rewriteOpen_rewriteOpen]
      intro r
      rw [isOpenOf, (hfr r).1, (hfr r).2.2]
      rfl
    · obtain ⟨h1, h2, h3, h4, h5⟩ := hgr (f r)
      exact ⟨h1, h2, h3.trans (hfr r).1, h4.trans (hfr r).2.1, h5⟩
  · exact ⟨id, hid, fun h => by simp [hs] at h⟩
  · exact ⟨id, hid, fun h => by simp [hs] at h⟩
  · exact ⟨id, hid, fun h => by simp [hs] at h⟩

/-- R140: the line, once its lane is through. -/
theorem tamperLine_lineAt (hn : n < 8) : ((tamperLine n s).lineAt n).expected = (s.lineAt n).expected ∧
    ((tamperLine n s).lineAt n).tx = .idle ∧ ((tamperLine n s).lineAt n).next = none := by
  unfold tamperLine
  dsimp only
  rw [lineAt_modLine, if_pos ⟨rfl, hn⟩]
  split
  · rename_i h
    exact ⟨rfl, h, rfl⟩
  · exact ⟨rfl, rfl, rfl⟩

end

/-! ### The lanes in turn -/

/-- R132, R140: what a tamper event makes of a lane and its line. -/
structure LaneTampered (l l' : Lane) (x : BenchLine) : Prop where
  state : l'.state = if l.state = .offline then .offline else .idle
  running : l.state = .running → l'.ctx = none ∧ l'.queue = [] ∧ x.expected = none
  held : l.state = .held → l'.queue = []
  idle : x.tx = .idle
  unsent : x.next = none

/-- The tamper event has gone through the lanes below `k`. -/
structure TamperedBelow (k : Nat) (s t : State) : Prop where
  outside : t.outside = s.outside
  keys : s.keys.Moves t.keys
  accounts : t.accounts = s.accounts
  cipher : t.cipher = s.cipher
  link : s.link.Grows t.link
  ahead : ∀ m, k ≤ m → t.laneAt m = s.laneAt m
  behind : ∀ m < k, LaneTampered (s.laneAt m) (t.laneAt m) (t.lineAt m)
  entries : ∀ (i : Nat) (r : Record), s.records.entries[i]? = some r →
    (r.closed = true ∨ k ≤ r.lane → t.records.entries[i]? = some r) ∧
    (r.closed = false → r.lane < k → (s.laneAt r.lane).state = .running →
      ∃ r', t.records.entries[i]? = some r' ∧ Record.ClosedAs .tamper none r r')

theorem tamperedBelow_zero (s : State) : TamperedBelow 0 s s :=
  ⟨rfl, .refl _, rfl, rfl, .refl _, fun _ _ => rfl, fun _ h => absurd h (Nat.not_lt_zero _),
    fun _ _ hr => ⟨fun _ => hr, fun _ h => absurd h (Nat.not_lt_zero _)⟩⟩

theorem TamperedBelow.succ {k : Nat} {s t : State} (h : TamperedBelow k s t) (hk : k < 8)
    (hc : (s.laneAt k).state = .running → (s.ctxAt k).isSome) (ha : ∀ n, s.accountAt n = none)
    (hw : look s.cipher.waiting none k = none) : TamperedBelow (k + 1) s (tamperLine k (tamperLane k t)) := by
  have hlane := h.ahead k le_rfl
  have hc' : (t.laneAt k).state = .running → (t.ctxAt k).isSome := by
    rw [State.ctxAt, hlane]; exact hc
  have ha' (n : Nat) : t.accountAt n = none := by rw [State.accountAt, h.accounts]; exact ha n
  have hw' : look t.cipher.waiting none k = none := by rw [h.cipher, hw]
  have hf := (tamperLane_frame hk hc' ha' hw').trans (tamperLine_frame k _)
  obtain ⟨hstate, hrunning, hheld⟩ := tamperLane_laneAt hk hc'
  obtain ⟨hexpected, htx, hnext⟩ := tamperLine_lineAt hk (s := tamperLane k t)
  obtain ⟨f, hentries, hclosed⟩ := tamperLane_entries hk hc'
  rw [hlane] at hstate hrunning hheld hclosed
  refine ⟨hf.outside.trans h.outside, h.keys.trans hf.keys, hf.accounts.trans h.accounts, hf.cipher.trans h.cipher,
    h.link.trans hf.link, fun m hm => (hf.lanes m (by omega)).trans (h.ahead m (by omega)), fun m hm => ?_,
    fun i r hr => ?_⟩
  · by_cases hmk : m = k
    · subst hmk
      exact ⟨hstate, fun hr => ⟨(hrunning hr).1, (hrunning hr).2.1, hexpected.trans (hrunning hr).2.2⟩, hheld, htx,
        hnext⟩
    · rw [hf.lanes m hmk, hf.lines m hmk]
      exact h.behind m (by omega)
  · obtain ⟨hsame, hdone⟩ := h.entries i r hr
    change (_ → (tamperLane k t).records.entries[i]? = _) ∧ (_ → _ → _ → ∃ r', (tamperLane k t).records.entries[i]? = _ ∧ _)
    rw [hentries]
    refine ⟨fun hcl => rewriteOpen_other (hsame (hcl.imp_right Nat.le_of_succ_le)) ?_, fun hcl hl hrun => ?_⟩
    · rcases hcl with hcl | hcl
      · simp [isOpenOf, hcl]
      · simp [isOpenOf, show r.lane ≠ k by omega]
    · by_cases hrk : r.lane = k
      · exact ⟨f r, rewriteOpen_open (hsame (.inr hrk.ge)) (by simp [isOpenOf, hcl, hrk]), hclosed (hrk ▸ hrun) r⟩
      · obtain ⟨r', hr', hr'c⟩ := hdone hcl (by omega) hrun
        exact ⟨r', rewriteOpen_other hr' (by simp [isOpenOf, hr'c.closed]), hr'c⟩

/-- R185, order 6: all the lanes. -/
theorem tamperLanes_below {s : State} (hc : ∀ n < 8, (s.laneAt n).state = .running → (s.ctxAt n).isSome)
    (ha : ∀ n, s.accountAt n = none) (hw : ∀ q, look s.cipher.waiting none q = none) :
    TamperedBelow 8 s (tamperLanes s) := by
  have h (k : Nat) (hk : k ≤ 8) :
      TamperedBelow k s ((List.range k).foldl (fun t n => tamperLine n (tamperLane n t)) s) := by
    induction k with
    | zero => exact tamperedBelow_zero s
    | succ k ih =>
      rw [List.range_succ, List.foldl_append]
      exact (ih (by omega)).succ hk (hc k hk) ha (hw k)
  exact h 8 le_rfl

end Sys2Proof.Machine

namespace Sys2Proof.Machine

/-! ## The tamper event (R24, R52, R68, R185, R186): O54 -/

/-- The notices and messages of a tamper event touch the two ports alone, and the notices that wait keep their places. -/
theorem tamperAuth_told (b : AuthState) (s : State) :
    ∃ k p, tamperAuth b s = { s with link := k, panel := p } ∧ s.link.Grows k := by
  unfold tamperAuth
  split
  · exact ⟨s.link, s.panel, rfl, .refl _⟩
  · rw [raiseMessage_eq, raiseNotice_eq]
    exact ⟨_, _, rfl, raiseNotice_grows ..⟩

theorem tamperAssembly_told (b : Option Assembly) (s : State) :
    ∃ k p, tamperAssembly b s = { s with link := k, panel := p } ∧ s.link.Grows k := by
  unfold tamperAssembly
  split
  · exact ⟨s.link, s.panel, rfl, .refl _⟩
  · rw [raiseBoth, raiseMessage_eq, raiseNotice_eq]
    exact ⟨_, _, rfl, raiseNotice_grows ..⟩

/-- R185: the TAMPER notice of an event with the supply on. -/
def runningTamper (s : State) : Line :=
  tamperLineOf "RUNNING" (usedSlots s) (usedAccounts s) (runningLanes s)

/-- R185: orders 1 to 5 and their notices, then the lanes. -/
theorem tamperEvent_powered {s : State} (hp : s.power = true) :
    ∃ k p, tamperEvent s = tamperLanes { tamperOrders s with link := k, panel := p } ∧
      (raiseNotice (runningTamper s) (tamperOrders s)).link.Grows k := by
  obtain ⟨k, p, hauth, hk⟩ := tamperAuth_told s.auth.state (raiseNotice (runningTamper s) (tamperOrders s))
  obtain ⟨k', p', hasm, hk'⟩ := tamperAssembly_told s.asm.record
    { raiseNotice (runningTamper s) (tamperOrders s) with link := k, panel := p }
  refine ⟨k', p', ?_, hk.trans hk'⟩
  have h : tamperEvent s = tamperLanes (tamperAssembly s.asm.record (tamperAuth s.auth.state
      (raiseNotice (runningTamper s) (tamperOrders s)))) := by
    unfold tamperEvent
    rw [if_neg (by simp [hp])]
    rfl
  rw [h, hauth, hasm, raiseNotice_eq]

/-- R52: the roster after a tamper event. -/
theorem custodian_tampered (c : Custodian) :
    c.tampered = { c with state := .pending, verifier := none, failed := 0 } := by
  unfold Custodian.tampered
  split
  · rename_i h
    rw [h]
  · rfl
  · rfl

theorem tamperRoster_custodianAt {s t : State} (h : t.auth.roster = tamperRoster s.auth.roster) (n : Nat) :
    t.custodianAt n = (s.custodianAt n).map fun c => { c with state := .pending, verifier := none, failed := 0 } := by
  have hlook : look t.auth.roster none (n - 1) = (look s.auth.roster none (n - 1)).map Custodian.tampered := by
    rw [h]
    exact look_map s.auth.roster (Option.map Custodian.tampered) none (n - 1)
  unfold State.custodianAt
  split
  · rfl
  · rw [hlook]
    exact congrArg (Option.map · _) (funext custodian_tampered)

/-- R179: the transmitter takes no line while one is being sent. -/
theorem pump_sending {s : State} (h : s.link.sending.isSome) : pump s = s := by
  obtain ⟨x, hx⟩ := Option.isSome_iff_exists.1 h
  have htake : s.link.take = s.link := by simp only [LinkPort.take, hx]
  rw [pump, htake]

/-- R185: the TAMPER notice enters at the end of the notice buffer where it finds a place, and keeps it. -/
theorem tamper_noticed {s : State} {k : LinkPort} (hg : (raiseNotice (runningTamper s) (tamperOrders s)).link.Grows k)
    (hs : s.startUp = none) (hl : s.link.notices.length < 16) :
    k.notices[s.link.notices.length]? = some (runningTamper s) := by
  have hn : (raiseNotice (runningTamper s) (tamperOrders s)).link.notices = s.link.notices ++ [runningTamper s] := by
    rcases raiseNotice_cases (runningTamper s) (tamperOrders s) with ⟨h, -⟩ | ⟨-, -, h⟩ | ⟨-, h, -⟩
    · rw [show (tamperOrders s).startUp = none from hs] at h
      cases h
    · rw [h]
      rfl
    · exact absurd hl (Nat.not_lt.2 h)
  obtain ⟨more, hmore⟩ := hg.2
  rw [← hmore, hn]
  simp

/-- Orders 1 to 5 leave no account, and nothing that waits for the unit. -/
theorem tamperOrders_accountAt (s : State) (n : Nat) : (tamperOrders s).accountAt n = none := look_replicate none n
theorem tamperOrders_slotAt (s : State) (n : Nat) : (tamperOrders s).slotAt n = none := look_replicate none n
theorem tamperOrders_waiting (s : State) (q : Nat) : look (tamperOrders s).cipher.waiting none q = none :=
  look_replicate none q

/-- R24: a slot that is EMPTY stays so. -/
theorem moves_empty {k k' : KeyStore} (h : k.Moves k') {n : Nat} (hn : look k.slots none n = none) :
    look k'.slots none n = none := by
  have h := h.2 n
  generalize look k'.slots none n = y at h ⊢
  rw [hn] at h
  cases h
  rfl

/-- R185: with the supply on. -/
theorem tamperEvent_on {s : State} (hp : s.power = true)
    (hc : ∀ n < 8, (s.laneAt n).state = .running → (s.ctxAt n).isSome) :
    ∃ k p, TamperedBelow 8 { tamperOrders s with link := k, panel := p } (tamperEvent s) ∧
      (raiseNotice (runningTamper s) (tamperOrders s)).link.Grows k := by
  obtain ⟨k, p, h, hg⟩ := tamperEvent_powered hp
  refine ⟨k, p, ?_, hg⟩
  rw [h]
  exact tamperLanes_below hc (tamperOrders_accountAt s) (tamperOrders_waiting s)

/-- R186: with the supply off. -/
theorem tamperPowerOff_off {s : State} (hp : s.power = false) : tamperPowerOff s = { s with
    latch := true, keys := { s.keys with slots := Vector.replicate 64 none }, accounts := Vector.replicate 64 none
    auth := { s.auth with roster := tamperRoster s.auth.roster }
    offRecord := match s.offRecord with
      | some r => some r
      | none => some (usedSlots s, usedAccounts s) } := by
  unfold tamperPowerOff
  rw [if_neg (by simp [hp])]
  rfl

namespace Settled

/-- Settles O54: orders 1 to 5 written out, and `tamperLanes_below` for the lanes. -/
theorem tamperEvent : Obligations.TamperEvent := by
  intro s
  refine ⟨fun hp => ?_, fun hp => ?_, fun hp hc => ?_, fun hp => ?_⟩
  · change finish (Machine.tamperEvent s) = _
    rw [Machine.tamperEvent, hp]
    rfl
  · change finish (tamperPowerOff s) = _
    rw [tamperPowerOff, hp]
    rfl
  · obtain ⟨k, p, h, hg⟩ := tamperEvent_on hp hc
    have hout := h.outside
    simp only [State.outside, Prod.mk.injEq] at hout
    obtain ⟨-, hauth, hasm, -, -, hlatch, -⟩ := hout
    refine ⟨pump (Machine.tamperEvent s), rfl, hlatch, fun n => ⟨?_, ?_⟩, ?_, ?_, ?_, ?_, ?_, fun n => ?_,
      fun q _ => ?_, ?_, fun n hn => ?_, fun i r hr => ⟨?_, ?_⟩, fun hs hsend hlen => ?_⟩
    · exact moves_empty h.keys (tamperOrders_slotAt s n)
    · exact (congrArg (look · none n) h.accounts).trans (tamperOrders_accountAt s n)
    · exact (congrArg KeyStore.entryNos h.keys.1 :)
    · exact congrArg Assembler.record hasm
    · exact congrArg AuthUnit.sessions hauth
    · exact congrArg AuthUnit.state hauth
    · exact congrArg AuthUnit.dualTimer hauth
    · exact tamperRoster_custodianAt (congrArg AuthUnit.roster hauth) n
    · exact (congrArg (fun u => look u.waiting none q) h.cipher).trans (tamperOrders_waiting s q)
    · exact congrArg CipherUnit.executing h.cipher
    · obtain ⟨hstate, hrunning, hheld, htx, hnext⟩ := h.behind n hn
      exact ⟨hstate, hrunning, hheld, htx, hnext⟩
    · exact fun hcl => (h.entries i r hr).1 (.inl hcl)
    · intro hcl hl hrun
      obtain ⟨r', hr', hclosed, houtcome, hlane, hordinal, hstep⟩ := (h.entries i r hr).2 hcl hl hrun
      exact ⟨r', hr', hclosed, houtcome, hlane, hordinal, hstep⟩
    · have hsame : (Machine.tamperEvent s).link.sending = s.link.sending := (hg.trans h.link).1.trans
        (raiseNotice_grows (runningTamper s) (tamperOrders s)).1
      rw [pump_sending (by rw [hsame]; exact hsend)]
      exact tamper_noticed (hg.trans h.link) hs hlen
  · refine ⟨pump (tamperPowerOff s), rfl, ?_⟩
    rw [tamperPowerOff_off hp]
    refine ⟨fun n => ⟨look_replicate none n, look_replicate none n, tamperRoster_custodianAt rfl n⟩, fun h => ?_,
      fun h => ?_, rfl⟩
    · change (match s.offRecord with | some r => some r | none => _) = _
      rw [h]
      rfl
    · obtain ⟨r, hr⟩ := Option.isSome_iff_exists.1 h
      change (match s.offRecord with | some r => some r | none => _) = _
      rw [hr]

end Settled

end Sys2Proof.Machine

namespace Sys2Proof.Machine

/-! ## What can happen to an issue account (R53, R54, R57, R58, R61 to R65) -/

theorem account_exhausted_false {a : Account} : a.exhausted = false ↔ a.returned ≠ [] ∨ a.next ≤ a.last := by
  cases h : a.returned <;> simp [Account.exhausted, h]

section drawNumber
variable {a : Account}

/-- R61: from an account with returned numbers, the smallest. -/
theorem drawNumber_returned {m : Nat} {rest : List Nat} (h : a.returned = m :: rest) :
    drawNumber a = (m, { a with returned := rest }) := by simp only [drawNumber, h]

/-- R61: otherwise the next one. -/
theorem drawNumber_next (h : a.returned = []) : drawNumber a = (a.next, { a with next := a.next + a.step }) := by
  simp only [drawNumber, h]

/-- R54, R61: a draw lowers remaining by 1. -/
theorem drawNumber_remaining (hs : 1 ≤ a.step) (he : a.exhausted = false) :
    (drawNumber a).2.remaining + 1 = a.remaining := by
  cases hr : a.returned with
  | cons m rest => rw [drawNumber_returned hr]; simp [Account.remaining, hr]; omega
  | nil =>
    have hle : a.next ≤ a.last := by simpa [account_exhausted_false, hr] using he
    rw [drawNumber_next hr]
    simp only [Account.remaining, hr, List.length_nil, if_pos hle]
    split
    · rename_i hle'
      rw [show a.last - a.next = (a.last - (a.next + a.step)) + a.step by omega, Nat.add_div_right _ (by omega)]
      omega
    · rw [Nat.div_eq_of_lt (by omega)]

/-- R54, R61: a draw from an account that is not EXHAUSTED keeps its law. -/
theorem drawNumber_lawful (h : AccountLawful a) (he : a.exhausted = false) : AccountLawful (drawNumber a).2 := by
  obtain ⟨hs1, hs2, hf, hl, hd, hi, ht, hr, hp⟩ := h
  cases hret : a.returned with
  | cons m rest =>
    rw [drawNumber_returned hret]
    rw [hret] at hr hp
    exact ⟨hs1, hs2, hf, hl, hd, hi, ht, (Nat.le_succ _).trans hr, hp.of_cons⟩
  | nil =>
    have hle : a.next ≤ a.last := by simpa [account_exhausted_false, hret] using he
    rw [drawNumber_next hret]
    refine ⟨hs1, hs2, by dsimp only; omega, by dsimp only; omega, ?_, hi, ht, hr, hp⟩
    dsimp only
    rw [show a.next + a.step - a.first = (a.next - a.first) + a.step by omega]
    exact hd.add (dvd_refl _)

/-- R61: a draw leaves N or raises it. -/
theorem drawNumber_next_le (a : Account) : a.next ≤ (drawNumber a).2.next := by
  unfold drawNumber
  split
  · exact le_rfl
  · exact Nat.le_add_right ..

end drawNumber

section insertAsc
variable (n : Nat) (l : List Nat)

theorem mem_insertAsc {k : Nat} : k ∈ insertAsc n l ↔ k = n ∨ k ∈ l := by
  induction l with
  | nil => simp [insertAsc]
  | cons m l ih =>
    unfold insertAsc
    split_ifs with h1 h2
    · simp
    · simp [h2]
    · simp [ih, or_left_comm]

theorem insertAsc_ascending {l : List Nat} (h : l.Pairwise (· < ·)) : (insertAsc n l).Pairwise (· < ·) := by
  induction l with
  | nil => simp [insertAsc]
  | cons m l ih =>
    obtain ⟨hm, hl⟩ := List.pairwise_cons.1 h
    unfold insertAsc
    split_ifs with h1 h2
    · exact List.pairwise_cons.2 ⟨by simpa [h1] using fun k hk => h1.trans (hm k hk), h⟩
    · exact h
    · refine List.pairwise_cons.2 ⟨fun k hk => ?_, ih hl⟩
      rcases (mem_insertAsc n l).1 hk with rfl | hk
      · omega
      · exact hm k hk

theorem insertAsc_length_le : (insertAsc n l).length ≤ l.length + 1 := by
  induction l with
  | nil => simp [insertAsc]
  | cons m l ih =>
    unfold insertAsc
    split_ifs
    · simp
    · simp
    · simpa using ih

theorem insertAsc_length {l : List Nat} (h : n ∉ l) : (insertAsc n l).length = l.length + 1 := by
  induction l with
  | nil => simp [insertAsc]
  | cons m l ih =>
    obtain ⟨hm, hl⟩ : n ≠ m ∧ n ∉ l := by simpa using h
    unfold insertAsc
    split_ifs
    · simp
    · simp [ih hl]

end insertAsc

/-- R66: a rise of remaining sets the warning, and nothing else. -/
theorem warnAfterRise_eq (a : Account) :
    warnAfterRise a = { a with armed := a.armed || decide (a.threshold < a.remaining) } := by
  unfold warnAfterRise
  split <;> rename_i h <;> simp [h]

/-- One change of an account: a reservation from one that is not EXHAUSTED, a number given back, a count or the warning
set, a threshold in range, a greater last number in range. -/
inductive AccountStep : Account → Account → Prop
  | draw (a : Account) : a.exhausted = false → AccountStep a (drawNumber a).2
  | giveBack (a : Account) (m : Nat) : a.returned.length < Config.returnedMax →
      AccountStep a { a with returned := insertAsc m a.returned }
  | mark (a : Account) (consumed voided : Nat) (armed : Bool) :
      AccountStep a { a with consumed := consumed, voided := voided, armed := armed }
  | warnAt (a : Account) (w : Nat) : w ≤ Config.thresholdMax → AccountStep a { a with threshold := w }
  | extend (a : Account) (v : Nat) : a.last < v → v ≤ Config.issueMax → AccountStep a { a with last := v }

/-- An account after some of these. -/
abbrev AccountMoves : Account → Account → Prop := Relation.ReflTransGen AccountStep

theorem accountStep_lawful {a b : Account} (hs : AccountStep a b) (h : AccountLawful a) : AccountLawful b := by
  obtain ⟨hs1, hs2, hf, hl, hd, hi, ht, hr, hp⟩ := id h
  cases hs with
  | draw he => exact drawNumber_lawful h he
  | giveBack m hm =>
    exact ⟨hs1, hs2, hf, hl, hd, hi, ht, (insertAsc_length_le m _).trans hm, insertAsc_ascending m hp⟩
  | mark => exact ⟨hs1, hs2, hf, hl, hd, hi, ht, hr, hp⟩
  | warnAt w hw => exact ⟨hs1, hs2, hf, hl, hd, hi, hw, hr, hp⟩
  | extend v hv hi' => exact ⟨hs1, hs2, hf, by dsimp only; omega, hd, hi', ht, hr, hp⟩

theorem accountStep_next_le {a b : Account} (hs : AccountStep a b) : a.next ≤ b.next := by
  cases hs with
  | draw => exact drawNumber_next_le a
  | _ => exact le_rfl

theorem accountMoves_lawful {a b : Account} (hm : AccountMoves a b) (h : AccountLawful a) : AccountLawful b := by
  induction hm with
  | refl => exact h
  | tail _ hs ih => exact accountStep_lawful hs ih

/-- R55: N never decreases. -/
theorem accountMoves_next_le {a b : Account} (hm : AccountMoves a b) : a.next ≤ b.next := by
  induction hm with
  | refl => exact le_rfl
  | tail _ hs ih => exact ih.trans (accountStep_next_le hs)

/-- R66: the warning of an account set. -/
theorem AccountStep.arm (a : Account) (b : Bool) : AccountStep a { a with armed := b } := .mark a a.consumed a.voided b

theorem warnAfterRise_moves (a : Account) : AccountMoves a (warnAfterRise a) :=
  warnAfterRise_eq a ▸ .single (.arm a _)

/-! ## The moves of an issue number (R61, R63 to R65): O28 -/

section
variable {s : State} {n m : Nat} {a : Account}

/-- R64: a number given back to an account whose list has room. -/
theorem returnNumber_room (ha : s.accountAt n = some a) (h : a.returned.length < Config.returnedMax) :
    returnNumber n m s =
      (false, s.setAccount n (some (warnAfterRise { a with returned := insertAsc m a.returned }))) := by
  simp only [returnNumber, ha, if_pos h]

/-- R65: to an account whose list is full. -/
theorem returnNumber_full (ha : s.accountAt n = some a) (h : ¬ a.returned.length < Config.returnedMax) :
    returnNumber n m s = (true, s.setAccount n (some { a with voided := a.voided + 1 })) := by
  simp only [returnNumber, ha, if_neg h]

theorem consume_some (ha : s.accountAt n = some a) :
    consume n s = s.setAccount n (some { a with consumed := a.consumed + 1 }) := by simp only [consume, ha]

end

/-- R61: what a draw takes, and what it leaves, written out. -/
theorem drawNumber_takes {a : Account} (h : AccountLawful a) (he : a.exhausted = false) :
    (a.returned ≠ [] → (drawNumber a).1 ∈ a.returned ∧ (∀ k ∈ a.returned, (drawNumber a).1 ≤ k) ∧
      (drawNumber a).2 = { a with returned := a.returned.erase (drawNumber a).1 }) ∧
    (a.returned = [] → (drawNumber a).1 = a.next ∧ a.next ≤ a.last ∧
      (drawNumber a).2 = { a with next := a.next + a.step }) := by
  obtain ⟨-, -, -, -, -, -, -, -, hp⟩ := h
  refine ⟨fun hne => ?_, fun hnil => ?_⟩
  · obtain ⟨m, rest, hr⟩ := List.exists_cons_of_ne_nil hne
    rw [hr] at hp
    rw [drawNumber_returned hr, hr]
    exact ⟨List.mem_cons_self, by simpa using fun k hk => ((List.pairwise_cons.1 hp).1 k hk).le, by simp⟩
  · rw [drawNumber_next hnil]
    exact ⟨rfl, by simpa [account_exhausted_false, hnil] using he, rfl⟩

/-- Settles O28: a draw by the two places a number comes from, a return by whether the list has room. -/
theorem issueNumberMoves : Obligations.IssueNumberMoves := by
  intro a h
  refine ⟨fun he => ⟨_, _, rfl, drawNumber_lawful h he, drawNumber_remaining h.1 he, drawNumber_takes h he⟩,
    fun s n m ha hn hm => ⟨fun hroom => ?_, fun hfull => ?_, consume_some ha, rfl⟩⟩
  · have hback : AccountMoves a (warnAfterRise { a with returned := insertAsc m a.returned }) :=
      .trans (.single (.giveBack a m hroom)) (warnAfterRise_moves _)
    have hrem : ({ a with returned := insertAsc m a.returned } : Account).remaining = a.remaining + 1 := by
      simp only [Account.remaining, insertAsc_length m hm]
      omega
    rw [returnNumber_room ha hroom]
    refine ⟨_, rfl, rfl, accountMoves_lawful hback h, ?_⟩
    rw [warnAfterRise_eq]
    exact ⟨hrem, fun k => mem_insertAsc m _, rfl, rfl, rfl, by simp; rfl⟩
  · exact returnNumber_full ha (by simp [hfull, Config.returnedMax])

end Sys2Proof.Machine

namespace Sys2Proof.Machine

/-! ## The requests of the Issue Counter Unit (R56 to R59): O25, O26, O27 -/

/-- What stands somewhere in a table is read at a place of it. -/
theorem exists_look_of_mem {n : Nat} {α : Type} {t : Table n α} {x : α} (d : α) (h : x ∈ t.toList) :
    ∃ i, look t d i = x := by
  obtain ⟨i, hi, rfl⟩ := Vector.mem_iff_getElem.1 (Vector.mem_toList_iff.1 h)
  exact ⟨i, by simp [look, Vector.getElem?_eq_getElem hi]⟩

/-- What is read at a place, and is not what stands for a missing one, stands in the table. -/
theorem mem_of_look {n : Nat} {α : Type} {t : Table n α} {d x : α} {i : Nat} (h : look t d i = x) (hd : x ≠ d) :
    x ∈ t.toList := by
  have hall : look t d i = d ∨ look t d i ∈ t.toList :=
    look_of_forall (P := fun y => y = d ∨ y ∈ t.toList) t d i (.inl rfl) fun _ => .inr
  rw [h] at hall
  exact hall.resolve_left hd

/-- An optional number of at most `d` digits is read. -/
theorem optNum_optArg {d v : Nat} {o : Option Nat} {s : State} {k : Option Nat → Answer × State}
    (h : o.getD v < 10 ^ d) : (optArg o).optNum d s k = k o := by
  cases o with
  | none => rfl
  | some x => exact if_pos h

section
variable {s : State} {n : Nat} {a : Account}

/-- R56, check 4. -/
theorem prefixUsed_iff {p : BitVec 24} : prefixUsed p s = true ↔ ∃ k a, s.accountAt k = some a ∧ a.pfx = p := by
  rw [prefixUsed, List.any_eq_true]
  constructor
  · rintro ⟨x, hx, hp⟩
    obtain ⟨k, hk⟩ := exists_look_of_mem none hx
    cases x with
    | none => simp at hp
    | some a => exact ⟨k, a, hk, by simpa using hp⟩
  · rintro ⟨k, a, ha, hp⟩
    exact ⟨some a, mem_of_look ha (by simp), by simpa using hp⟩

/-- R66: a threshold below remaining arms the warning. -/
theorem warnAfterThreshold_above (h : a.threshold < a.remaining) :
    warnAfterThreshold n a s = ({ a with armed := true }, s.setAccount n (some { a with armed := true })) :=
  if_pos h

/-- R66: otherwise an armed warning is given, and disarmed. -/
theorem warnAfterThreshold_warns (h : a.remaining ≤ a.threshold) (ha : a.armed = true) :
    warnAfterThreshold n a s = ({ a with armed := false },
      raiseNotice (issueLow n { a with armed := false }) (s.setAccount n (some { a with armed := false }))) :=
  (if_neg (Nat.not_lt.2 h)).trans (if_pos ha)

/-- R66: and a disarmed one stays as it is. -/
theorem warnAfterThreshold_quiet (h : a.remaining ≤ a.threshold) (ha : a.armed = false) :
    warnAfterThreshold n a s = (a, s.setAccount n (some a)) :=
  (if_neg (Nat.not_lt.2 h)).trans (if_neg (by simp [ha]))

/-! ### OPEN-ISSUE -/

/-- R56: the account as it is opened. -/
def Account.opened (p : BitVec 24) (f l st w : Nat) : Account :=
  { pfx := p, first := f, last := l, step := st, next := f, returned := [], threshold := w, armed := true, consumed := 0,
    voided := 0 }

theorem opened_remaining {p : BitVec 24} {f l st w : Nat} (h : f ≤ l) :
    (Account.opened p f l st w).remaining = (l - f) / st + 1 := by simp [Account.remaining, Account.opened, h]

/-- R56: what OPEN-ISSUE answers, once its arguments are read. -/
theorem openIssue_val {p : BitVec 24} {f l : Nat} {st th : Option Nat} (hn : n < 64) (hf : f < 10 ^ 8)
    (hl : l < 10 ^ 8) (hst : st.getD 1 < 10 ^ 8) (hth : th.getD 100 < 10 ^ 8) :
    openIssue (.val n) (.val p) (.val f) (.val l) (optArg st) (optArg th) s =
      if 16777215 < f ∨ 16777215 < l ∨ l < f ∨ st.getD 1 = 0 ∨ 16 < st.getD 1 then refuse .range s
      else match s.slotAt n with
        | none => refuse .wrongState s
        | some r =>
          if r.state = .assembling ∨ r.cls ≠ .root ∨ (s.accountAt n).isSome then refuse .wrongState s
          else if prefixUsed p s then refuse .inUse s
          else
            let w := warnAfterThreshold n (Account.opened p f l (st.getD 1) (min 65535 (th.getD 100))) s
            (.ok [fSlot n, .field "PREFIX" (prefixValue p), .field "REMAINING" (.num w.1.remaining),
              .field "THRESHOLD" (.num (min 65535 (th.getD 100))), .field "ARMED" (yesNo w.1.armed)], w.2) := by
  rw [openIssue, num_val (by omega), Arg.need, num_val hf, num_val hl, optNum_optArg hst, optNum_optArg hth,
    below_lt hn]
  simp only [Bool.or_eq_true, decide_eq_true_eq, or_assoc]
  rfl

/-- R56, R66: the account that passes the refusals. -/
theorem openIssue_opens {p : BitVec 24} {f l : Nat} {st th : Option Nat} {r : SlotRec} (hn : n < 64) (hf : f < 10 ^ 8)
    (hth : th.getD 100 < 10 ^ 8) (hfl : f ≤ l) (hl : l ≤ 16777215) (h1 : 1 ≤ st.getD 1) (h16 : st.getD 1 ≤ 16)
    (hr : s.slotAt n = some r) (hst : r.state ≠ .assembling) (hcls : r.cls = .root) (ha : s.accountAt n = none)
    (hp : ∀ k a, s.accountAt k = some a → a.pfx ≠ p) :
    openIssue (.val n) (.val p) (.val f) (.val l) (optArg st) (optArg th) s =
      let w := warnAfterThreshold n (Account.opened p f l (st.getD 1) (min 65535 (th.getD 100))) s
      (.ok [fSlot n, .field "PREFIX" (prefixValue p), .field "REMAINING" (.num w.1.remaining),
        .field "THRESHOLD" (.num (min 65535 (th.getD 100))), .field "ARMED" (yesNo w.1.armed)], w.2) := by
  have hfree : prefixUsed p s = false := by
    rw [Bool.eq_false_iff, ne_eq, prefixUsed_iff]
    rintro ⟨k, a, hk, hkp⟩
    exact hp k a hk hkp
  rw [openIssue_val hn hf (by omega) (by omega) hth, if_neg (by omega)]
  simp [hr, hst, hcls, ha, hfree]

end

namespace Settled

/-- Settles O25, by `openIssue_val` and, for the account opened, the threshold against remaining. -/
theorem openIssue : Obligations.OpenIssue := by
  intro s tag n f l p st th hs hn hf hl hst hth
  have err {c} := custodian_err (c := c) (i := .openIssue tag (.val n) (.val p) (.val f) (.val l) (optArg st) (optArg th)) hs
    (Machine.openIssue (.val n) (.val p) (.val f) (.val l) (optArg st) (optArg th)) rfl
  have ok {t} {fields} := custodian_ok (t := t) (fields := fields)
    (i := .openIssue tag (.val n) (.val p) (.val f) (.val l) (optArg st) (optArg th)) hs
    (Machine.openIssue (.val n) (.val p) (.val f) (.val l) (optArg st) (optArg th)) rfl
  refine ⟨fun h => err ?_, fun hfl hl' h1 h16 => ⟨fun h => err ?_, fun r hr hst hcls ha =>
    ⟨fun hp => err ?_, fun hp w rem hw hrem => ⟨fun hlt => ok ?_, fun hle => ok ?_⟩⟩⟩⟩
  · rw [openIssue_val hn hf hl ‹_› hth, if_pos h, refuse]
  · rw [openIssue_val hn hf hl ‹_› hth, if_neg (by omega), heardDual_slotAt, heardDual_accountAt]
    cases hr : s.slotAt n with
    | none => rfl
    | some r => simp only [if_pos (h r hr), refuse]
  · rw [openIssue_val hn hf hl ‹_› hth, if_neg (by omega), heardDual_slotAt, heardDual_accountAt]
    have hused : prefixUsed p (heardDual s) = true := prefixUsed_iff.2 (by simpa using hp)
    simp [hr, hst, hcls, ha, hused, refuse]
  all_goals
    have hopened : rem = (Account.opened p f l (st.getD 1) w).remaining := by rw [hrem, opened_remaining hfl]
    subst hw
    rw [openIssue_opens hn hf hth hfl hl' h1 h16 (by simpa using hr) hst hcls (by simpa using ha) (by simpa using hp)]
  · rw [warnAfterThreshold_above (hopened ▸ hlt), hopened]
    rfl
  · rw [warnAfterThreshold_warns (hopened ▸ hle) rfl, hopened]
    rfl

end Settled

/-! ### EXTEND-ISSUE, SET-ISSUE-WARNING and READ-ISSUE -/

section
variable {s : State} {n v : Nat}

/-- R57: what EXTEND-ISSUE answers, once its arguments are read. -/
theorem extendIssue_val (hn : n < 64) (hv : v < 10 ^ 8) : extendIssue (.val n) (.val v) s =
    if 16777215 < v then refuse .range s
    else match s.accountAt n with
      | none => refuse .wrongState s
      | some a =>
        if v ≤ a.last then refuse .range s
        else
          let a' := warnAfterRise { a with last := v }
          (.ok [fSlot n, .field "LAST" (.num v), .field "NEXT" (.num a'.next), .field "REMAINING" (.num a'.remaining),
            .field "ARMED" (yesNo a'.armed)], s.setAccount n (some a')) := by
  rw [extendIssue, num_val (by omega), num_val hv, below_lt hn]
  rfl

/-- R58: SET-ISSUE-WARNING of a slot without an account. -/
theorem setIssueWarning_none (hn : n < 64) (hv : v < 10 ^ 8) (ha : s.accountAt n = none) :
    setIssueWarning (.val n) (.val v) s = refuse .wrongState s := by
  rw [setIssueWarning, num_val (by omega), num_val hv, below_lt hn, ha]

/-- R58, R66: and of one with an account, by what becomes of the warning. -/
theorem setIssueWarning_some {a b : Account} {t : State} (hn : n < 64) (hv : v < 10 ^ 8) (ha : s.accountAt n = some a)
    (hw : warnAfterThreshold n { a with threshold := min 65535 v } s = (b, t)) :
    setIssueWarning (.val n) (.val v) s =
      (.ok [fSlot n, .field "THRESHOLD" (.num (min 65535 v)), .field "REMAINING" (.num b.remaining),
        .field "ARMED" (yesNo b.armed)], t) := by
  rw [setIssueWarning, num_val (by omega), num_val hv, below_lt hn, ha]
  exact congrArg (fun w : Account × State => (Answer.ok [fSlot n, .field "THRESHOLD" (.num (min 65535 v)),
    .field "REMAINING" (.num w.1.remaining), .field "ARMED" (yesNo w.1.armed)], w.2)) hw

theorem readIssue_val (hn : n < 64) : readIssue (.val n) s = (.ok (issueFields n (s.accountAt n)), s) :=
  index_val (by omega) hn

end

/-- Settles O26: the two requests' answers for the account found, and the threshold against remaining. -/
theorem issueAccountChanges : Obligations.IssueAccountChanges := by
  intro s tag n v hs hn hv
  have extendErr {c} := custodian_err (c := c) (i := .extendIssue tag (.val n) (.val v)) hs
    (extendIssue (.val n) (.val v)) rfl
  have extendOk {t} {fields} := custodian_ok (t := t) (fields := fields) (i := .extendIssue tag (.val n) (.val v)) hs
    (extendIssue (.val n) (.val v)) rfl
  have warnOk {t} {fields} := custodian_ok (t := t) (fields := fields) (i := .setIssueWarning tag (.val n) (.val v)) hs
    (setIssueWarning (.val n) (.val v)) rfl
  refine ⟨fun h => extendErr ?_, fun ha => ⟨fun h => extendErr ?_,
      custodian_err hs (setIssueWarning (.val n) (.val v)) rfl ?_⟩,
    fun a ha => ⟨fun hle hmax => extendErr ?_, fun hlt hmax rem hrem => extendOk ?_,
      fun w hw => ⟨fun h => warnOk ?_, fun h harm => warnOk ?_, fun h harm => warnOk ?_⟩⟩⟩
  · rw [extendIssue_val hn hv, if_pos h, refuse]
  · rw [extendIssue_val hn hv, if_neg (by omega), heardDual_accountAt, ha, refuse]
  · exact setIssueWarning_none hn hv (by simpa using ha)
  · rw [extendIssue_val hn hv, if_neg (by omega), heardDual_accountAt, ha]
    exact if_pos hle
  · rw [extendIssue_val hn hv, if_neg (by omega), heardDual_accountAt, ha]
    have hrem' : rem = ({ a with last := v } : Account).remaining := hrem
    simp only [if_neg (Nat.not_le.2 hlt), warnAfterRise_eq, fSlot, ← hrem']
    rw [hrem']
    rfl
  all_goals
    subst hw
    have ha' : (heardDual s).accountAt n = some a := by simpa using ha
  · exact setIssueWarning_some hn hv ha' (warnAfterThreshold_above h)
  · exact setIssueWarning_some hn hv ha' (warnAfterThreshold_warns h harm)
  · rw [setIssueWarning_some hn hv ha' (warnAfterThreshold_quiet h harm), harm]
    rfl

/-- R54: an account is EXHAUSTED when remaining is 0. -/
theorem exhausted_iff_remaining (a : Account) : a.exhausted = true ↔ a.remaining = 0 := by
  have h : a.exhausted = true ↔ a.returned = [] ∧ a.last < a.next := by simp [Account.exhausted]
  rw [h, Account.remaining]
  split <;> simp <;> omega

namespace Settled

/-- Settles O27: the reading answers from the account as it stands. -/
theorem readIssue : Obligations.ReadIssue := by
  refine fun s tag n hs hn => ⟨fun ha => ?_, fun a rem ha hrem => ?_⟩
  · exact operator_ok hs (Machine.readIssue (.val n)) rfl (by rw [readIssue_val hn, heard_accountAt, ha]; rfl)
  · refine operator_ok hs (Machine.readIssue (.val n)) rfl ?_
    have hrem' : rem = a.remaining := hrem
    rw [readIssue_val hn, heard_accountAt, ha, hrem']
    simp only [issueFields, exhausted_iff_remaining, ids, commaList, List.isEmpty_iff, List.map_eq_nil_iff, yesNo, fSlot,
      fState, prefixValue]
    rfl

end Settled

end Sys2Proof.Machine

namespace Sys2Proof.Machine

/-! ## The stores, and what can happen to them: O59 -/

/-- What holds of a missing place holds of all places of a table exactly when it holds of all that are read. -/
theorem forall_look {n : Nat} {α : Type} {P : α → Prop} {t : Table n α} {d : α} (hd : P d) :
    (∀ x ∈ t.toList, P x) ↔ ∀ i, P (look t d i) :=
  ⟨fun h i => look_of_forall t d i hd h, fun h x hx => by
    obtain ⟨i, hi⟩ := exists_look_of_mem d hx
    exact hi ▸ h i⟩

/-- R143: the counters of a line are 16-bit numbers. -/
abbrev BenchLine.CountersFit (l : BenchLine) : Prop :=
  l.checkErr ≤ Config.word16Max ∧ l.unsolicited ≤ Config.word16Max

theorem queuesFit_iff (s : State) : QueuesFit s ↔ ∀ n, (s.laneAt n).queue.length ≤ Config.queueMax :=
  forall_look (P := fun l : Lane => l.queue.length ≤ Config.queueMax) (Nat.zero_le _)

theorem countersFit_iff (s : State) : CountersFit s ↔ ∀ n, (s.lineAt n).CountersFit :=
  forall_look (P := BenchLine.CountersFit) ⟨Nat.zero_le _, Nat.zero_le _⟩

/-- R68: a slot that holds a key keeps its class, and holds a key still. -/
def SlotStands (x y : Slot) : Prop :=
  ∀ r, x = some r → r.state ≠ .assembling → ∃ r', y = some r' ∧ r'.cls = r.cls ∧ r'.state ≠ .assembling

theorem SlotStands.refl (x : Slot) : SlotStands x x := fun r hr hst => ⟨r, hr, rfl, hst⟩

theorem SlotStands.trans {x y z : Slot} (h : SlotStands x y) (h' : SlotStands y z) : SlotStands x z := by
  intro r hr hst
  obtain ⟨r', hr', hcls, hst'⟩ := h r hr hst
  obtain ⟨r'', hr'', hcls', hst''⟩ := h' r' hr' hst'
  exact ⟨r'', hr'', hcls'.trans hcls, hst''⟩

theorem SlotStands.of_empty (y : Slot) : SlotStands none y := nofun

/-- A slot in use replaced by one of its class. -/
theorem SlotStands.replace {r r' : SlotRec} (hcls : r'.cls = r.cls)
    (hst : r.state ≠ .assembling → r'.state ≠ .assembling) : SlotStands (some r) (some r') := by
  intro _ hr h
  cases hr
  exact ⟨r', rfl, hcls, hst h⟩

/-- The lanes' work moves bindings and allowances alone. -/
theorem SlotMoves.stands {x y : Slot} (h : SlotMoves x y) : SlotStands x y := by
  intro r hr hst
  cases h with
  | empty => cases hr
  | bare r' b ha => cases hr; exact ⟨_, rfl, rfl, hst⟩
  | moved r' b al al' ha hal => cases hr; exact ⟨_, rfl, rfl, hst⟩

/-- After some work of the blocks, each bound that held holds, and the versions that were valid are joined by valid ones
alone. -/
structure BoundsKept (s t : State) : Prop where
  records : RecordsFit s → RecordsFit t
  notices : NoticesFit s → NoticesFit t
  queues : QueuesFit s → QueuesFit t
  counters : CountersFit s → CountersFit t
  valid : VersionsValid s → VersionsValid t

/-- After work that opens no account, with the versions valid at its beginning, every account also comes from one that stood
there, and its slot's key is still in place. -/
structure StoreMoves (s t : State) : Prop extends BoundsKept s t where
  accounts : VersionsValid s → ∀ n b, t.accountAt n = some b →
    ∃ a, s.accountAt n = some a ∧ AccountMoves a b ∧ SlotStands (s.slotAt n) (t.slotAt n)

theorem BoundsKept.refl (s : State) : BoundsKept s s := ⟨id, id, id, id, id⟩

theorem BoundsKept.trans {s t u : State} (h : BoundsKept s t) (h' : BoundsKept t u) : BoundsKept s u :=
  ⟨h'.records ∘ h.records, h'.notices ∘ h.notices, h'.queues ∘ h.queues, h'.counters ∘ h.counters, h'.valid ∘ h.valid⟩

/-- What the laws of the stores look at. -/
def State.stores (s : State) :=
  (s.keys.slots, s.accounts, (fun n => ((s.planAt n).installed, (s.planAt n).retiring)), (fun n => (s.laneAt n).queue),
    (fun n => ((s.lineAt n).checkErr, (s.lineAt n).unsolicited)), s.records.entries.length, s.link.notices, s.link.lost)

namespace StoreMoves

theorem refl (s : State) : StoreMoves s s := ⟨.refl s, fun _ _ b hb => ⟨b, hb, .refl, .refl _⟩⟩

theorem trans {s t u : State} (h : StoreMoves s t) (h' : StoreMoves t u) : StoreMoves s u where
  toBoundsKept := h.toBoundsKept.trans h'.toBoundsKept
  accounts hv n c hc := by
    obtain ⟨b, hb, hbc, hslot'⟩ := h'.accounts (h.valid hv) n c hc
    obtain ⟨a, ha, hab, hslot⟩ := h.accounts hv n b hb
    exact ⟨a, ha, hab.trans hbc, hslot.trans hslot'⟩

/-- Work that touches nothing of the stores. -/
theorem of_stores {s t : State} (h : t.stores = s.stores) : StoreMoves s t := by
  simp only [State.stores, Prod.mk.injEq, funext_iff] at h
  obtain ⟨hslots, haccounts, hplans, hqueues, hcounters, hrecords, hnotices, hlost⟩ := h
  refine ⟨⟨fun hs => ?_, fun hs => ?_, fun hs => ?_, fun hs => ?_, fun hs n v hv => ?_⟩,
    fun _ n b hb => ⟨b, ?_, .refl, ?_⟩⟩
  · rwa [RecordsFit, hrecords]
  · rwa [NoticesFit, hnotices, hlost]
  · simpa only [queuesFit_iff, hqueues] using hs
  · simpa only [countersFit_iff, BenchLine.CountersFit, (hcounters _).1, (hcounters _).2] using hs
  · rw [(hplans n).1, (hplans n).2] at hv
    exact hs n v hv
  · rwa [State.accountAt, ← haccounts]
  · rw [State.slotAt, State.slotAt, hslots]
    exact .refl _

/-- R68: work that keeps the bounds and erases every account. -/
theorem of_erased {s t : State} (hb : BoundsKept s t) (h : t.accounts = Vector.replicate 64 none) : StoreMoves s t where
  toBoundsKept := hb
  accounts _ n b ha := by
    rw [State.accountAt, h, look_replicate] at ha
    cases ha

/-- A change of the Link Port that keeps its bounds. -/
theorem link {s : State} {k : LinkPort} (h : NoticesFit s → NoticesFit { s with link := k }) :
    StoreMoves s { s with link := k } := { refl s with notices := h }

/-- A change of the Record Queue that keeps its bound. -/
theorem queue {s : State} {q : RecordQueue} (h : RecordsFit s → RecordsFit { s with records := q }) :
    StoreMoves s { s with records := q } := { refl s with records := h }

theorem queue_of_entries {s : State} {q : RecordQueue} (h : q.entries = s.records.entries) :
    StoreMoves s { s with records := q } := queue fun hs => by rwa [RecordsFit, h]

/-- A change of a lane that keeps the bound of its queue. -/
theorem modLane {s : State} {n : Nat} {f : Lane → Lane}
    (h : (s.laneAt n).queue.length ≤ Config.queueMax → (f (s.laneAt n)).queue.length ≤ Config.queueMax) :
    StoreMoves s (s.modLane n f) :=
  { refl s with
    queues := fun hs => (queuesFit_iff _).2 fun m => by
      rw [laneAt_modLane]
      split
      · exact h ((queuesFit_iff s).1 hs n)
      · exact (queuesFit_iff s).1 hs m }

/-- A change of a line that keeps its counters' bounds. -/
theorem modLine {s : State} {n : Nat} {f : BenchLine → BenchLine}
    (h : ∀ l, BenchLine.CountersFit l → BenchLine.CountersFit (f l)) : StoreMoves s (s.modLine n f) :=
  { refl s with
    counters := fun hs => (countersFit_iff _).2 fun m => by
      rw [lineAt_modLine]
      split
      · exact h _ ((countersFit_iff s).1 hs n)
      · exact (countersFit_iff s).1 hs m }

/-- A plan replaced by one whose versions are versions of it, or valid. -/
theorem setPlan {s : State} {n : Nat} {p : Plan}
    (h : ∀ v, p.installed = some v ∨ p.retiring = some v →
      ((s.planAt n).installed = some v ∨ (s.planAt n).retiring = some v) ∨ draftFault v.steps = none) :
    StoreMoves s (s.setPlan n p) :=
  { refl s with
    valid := fun hs m v hv => by
      rw [planAt_setPlan] at hv
      split at hv
      · exact (h v hv).elim (hs n v) id
      · exact hs m v hv }

/-- A slot replaced by one in which a key that it held stays. -/
theorem setSlot {s : State} {n : Nat} {x : Slot} (h : SlotStands (s.slotAt n) x) : StoreMoves s (s.setSlot n x) :=
  { refl s with
    accounts := fun _ m b hb => ⟨b, hb, .refl, by
      rw [slotAt_setSlot]
      split
      · rename_i hm; exact hm.1 ▸ h
      · exact .refl _⟩ }

/-- An account changed. -/
theorem setAccount {s : State} {n : Nat} {a b : Account} (ha : s.accountAt n = some a) (h : AccountMoves a b) :
    StoreMoves s (s.setAccount n (some b)) :=
  { refl s with
    accounts := fun _ m c hc => by
      rw [accountAt_setAccount] at hc
      split at hc
      · rename_i hm
        cases hc
        exact ⟨a, hm.1 ▸ ha, h, .refl _⟩
      · exact ⟨c, hc, .refl, .refl _⟩ }

/-- A change of the Key Store in which the keys stay. -/
theorem keys {s : State} {k : KeyStore} (h : ∀ n, SlotStands (look s.keys.slots none n) (look k.slots none n)) :
    StoreMoves s { s with keys := k } :=
  { refl s with accounts := fun _ n b hb => ⟨b, hb, .refl, h n⟩ }

/-- R11 to R13: the lanes' work on the Key Store. -/
theorem keys_of_moves {s : State} {k : KeyStore} (h : s.keys.Moves k) : StoreMoves s { s with keys := k } :=
  keys fun n => (h.2 n).stands

/-- R4, R68: a slot that becomes EMPTY loses its account. -/
theorem emptySlot (s : State) (n : Nat) : StoreMoves s (s.emptySlot n) :=
  { refl s with
    accounts := fun _ m b hb => by
      by_cases hm : n = m
      · subst hm
        by_cases hn : n < 64
        · rw [emptySlot_accountAt s n hn] at hb
          cases hb
        · have hsame : (s.emptySlot n).slotAt n = s.slotAt n := by simp [State.emptySlot, slotAt_setSlot, hn]
          rw [State.emptySlot, accountAt_setAccount, if_neg (by simp [hn])] at hb
          exact ⟨b, hb, .refl, hsame ▸ .refl _⟩
      · rw [emptySlot_accountAt_ne s n m hm] at hb
        exact ⟨b, hb, .refl, (emptySlot_slotAt_ne s n m hm).symm ▸ .refl _⟩ }

end StoreMoves

end Sys2Proof.Machine

namespace Sys2Proof.Machine

/-! ## What leaves the stores as they are -/

section
variable (s : State) (n : Nat)

theorem modLane_stores {f : Lane → Lane} (h : ∀ l, (f l).queue = l.queue := by exact fun _ => rfl) :
    (s.modLane n f).stores = s.stores := by
  have hm (m : Nat) := view_put Lane.queue (t := s.lanes) (i := n) (x := f (s.laneAt n)) (d := .down false 0) (h _) m
  simp only [State.stores]
  exact congrArg (fun q => (_, _, _, q, _)) (funext hm)

theorem modLine_stores {f : BenchLine → BenchLine}
    (h : ∀ l, (f l).checkErr = l.checkErr ∧ (f l).unsolicited = l.unsolicited := by exact fun _ => ⟨rfl, rfl⟩) :
    (s.modLine n f).stores = s.stores := by
  have hm (m : Nat) := view_put (fun l : BenchLine => (l.checkErr, l.unsolicited)) (t := s.lines) (i := n)
    (x := f (s.lineAt n)) (d := .down .r9600 .none false) (Prod.ext (h _).1 (h _).2) m
  simp only [State.stores]
  exact congrArg (fun q => (_, _, _, _, q, _)) (funext hm)

theorem setPlan_stores {p : Plan} (h1 : p.installed = (s.planAt n).installed) (h2 : p.retiring = (s.planAt n).retiring) :
    (s.setPlan n p).stores = s.stores := by
  have hm (m : Nat) := view_put (fun p : Plan => (p.installed, p.retiring)) (t := s.plans) (i := n) (x := p)
    (d := .factory) (Prod.ext h1 h2) m
  simp only [State.stores]
  exact congrArg (fun q => (_, _, q, _)) (funext hm)

@[simp] theorem modOpen_stores (f : Record → Record) : (s.modOpen n f).stores = s.stores := by
  simp only [State.stores, State.modOpen, List.length_map]
  rfl

@[simp] theorem modCtx_stores (f : RunContext → RunContext) : (s.modCtx n f).stores = s.stores := modLane_stores s n
@[simp] theorem setStage_stores (g : Stage) : (s.setStage n g).stores = s.stores := modLane_stores s n
@[simp] theorem setTimer_stores (t : Option Nat) : (s.setTimer n t).stores = s.stores := modLane_stores s n
@[simp] theorem clearAwait_stores : (clearAwait n s).stores = s.stores :=
  (modLine_stores _ n).trans (setTimer_stores s n none)
@[simp] theorem setReply_stores (l : Line) : (setReply l s).stores = s.stores := rfl
@[simp] theorem setRx_stores (rx : LinkRx) : (setRx rx s).stores = s.stores := rfl
@[simp] theorem setAsm_stores (a : Option Assembly) : (s.setAsm a).stores = s.stores := rfl
@[simp] theorem withdraw_stores : (withdraw n s).stores = s.stores := rfl
@[simp] theorem leaveWaiting_stores : (leaveWaiting n s).stores = s.stores := rfl
@[simp] theorem restartDual_stores : (restartDual s).stores = s.stores := by rw [restartDual_eq]; rfl
@[simp] theorem raiseMessage_stores (l : Line) : (raiseMessage l s).stores = s.stores := by rw [raiseMessage_eq]; rfl
@[simp] theorem setCustodian_stores (c : Option Custodian) : (s.setCustodian n c).stores = s.stores := by
  unfold State.setCustodian; split <;> rfl

@[simp] theorem syncOpen_stores : (syncOpen n s).stores = s.stores := by
  unfold syncOpen; split
  · rfl
  · exact modOpen_stores ..

@[simp] theorem modDelivery_stores (f : Delivery → Delivery) : (s.modDelivery n f).stores = s.stores := by
  simp [State.modDelivery]

@[simp] theorem closeRecord_stores (o : Outcome) (k : Option Nat) (v : List Tki) :
    (closeRecord n o k v s).stores = s.stores := modOpen_stores ..

@[simp] theorem markServed_stores (c : RunContext) : (markServed n c s).stores = s.stores :=
  modLine_stores s n fun _ => by split <;> exact ⟨rfl, rfl⟩

@[simp] theorem stopRun_stores : (stopRun n s).stores = s.stores := by
  refine (withdraw_stores ..).trans ((modLine_stores _ n).trans ?_)
  simp

/-- R18, R19: what is posted or served touches the Cipher Unit alone. -/
@[simp] theorem serveRequester_stores (r : CipherRequest) : (serveRequester n r s).1.stores = s.stores := by
  obtain ⟨u, hu⟩ := serveRequester_cipher s n r
  rw [hu]; rfl

@[simp] theorem post_stores (r : CipherRequest) : (post n r s).1.stores = s.stores := by
  unfold post; split
  · exact serveRequester_stores ..
  · rfl

@[simp] theorem postLoad_stores (op : LaneOp) : (postLoad n op s).1.stores = s.stores := by
  unfold postLoad; split
  · rfl
  · split
    · split <;> rename_i h <;> simpa using (congrArg (·.1.stores) h).symm
    · rfl

@[simp] theorem fillHeader_stores : (fillHeader n s).stores = s.stores := by
  unfold fillHeader; split
  · rfl
  · exact modCtx_stores ..

@[simp] theorem beginAwait_stores (st : Step) : (beginAwait n st s).1.stores = s.stores := by
  unfold beginAwait; split
  · rfl
  · simp

@[simp] theorem nextStep_stores : (nextStep n s).1.stores = s.stores := by
  unfold nextStep; split
  · rfl
  · split
    · rfl
    · split
      · simp
      · rfl

@[simp] theorem endDelivery_stores (p : DeliveryPhase) (w : Option Refuse) : (endDelivery n p w s).stores = s.stores := by
  unfold endDelivery; split
  · rfl
  · split <;> simp

@[simp] theorem failFrame_stores (o : Outcome) (p : DeliveryPhase) (w : Option Refuse) :
    (failFrame n o p w s).1.stores = s.stores := by
  unfold failFrame; split <;> simp

@[simp] theorem noteStep_stores (k : NoteKind) : (noteStep n k s).1.stores = s.stores := by simp [noteStep]

@[simp] theorem takeWait_stores (c : RunContext) (st : Step) : (takeWait n c st s).1.stores = s.stores := by
  unfold takeWait; split <;> simp

@[simp] theorem takeAccept_stores (c : RunContext) (p : Nat) (v : CheckValue) :
    (takeAccept n c p v s).1.stores = s.stores := by
  unfold takeAccept; split
  · simp
  · split
    · simp
    · split <;> simp

@[simp] theorem takeCheck_stores (c : RunContext) (st : Step) (p : Nat) (v : CheckValue) :
    (takeCheck n c st p v s).1.stores = s.stores := by
  unfold takeCheck; split
  · simp
  · split
    · rfl
    · split <;> simp

@[simp] theorem takeReply_stores (r : BenchReply) : (takeReply n r s).1.stores = s.stores := by
  unfold takeReply
  split
  · rfl
  · split
    · rfl
    · split <;> simp

@[simp] theorem loadStepTimer_stores (f : OutFrame) : (loadStepTimer n f s).stores = s.stores := by
  unfold loadStepTimer; split
  · rfl
  · split
    · simp
    · rfl

theorem bindVersion_stores {p : Nat} {b : Bool} {t : State} {v : Version} (h : bindVersion n p b s = .ok v t) :
    t.stores = s.stores := by
  rw [(bindVersion_ok h).2]
  exact setPlan_stores s p rfl rfl

@[simp] theorem setOnline_stores (y : Bool) : (setOnline n y s).stores = s.stores := by
  have hlane : (s.modLane n fun l => { l with online := y, state := if y then .idle else .offline }).stores = s.stores :=
    modLane_stores s n
  unfold setOnline
  dsimp only
  split
  · exact (modLine_stores _ n fun l => by split <;> exact ⟨rfl, rfl⟩).trans hlane
  · exact hlane
  · exact (modLine_stores _ n).trans hlane

@[simp] theorem contactChange_stores (b : Bool) : (contactChange n b s).stores = s.stores := by
  unfold contactChange; split
  · rfl
  · split <;> exact modLine_stores s n

@[simp] theorem tamperLine_stores : (tamperLine n s).stores = s.stores :=
  modLine_stores s n fun l => by split <;> exact ⟨rfl, rfl⟩

@[simp] theorem discardHeld_stores : (discardHeld n s).stores = s.stores := by
  unfold discardHeld
  split
  · rfl
  · split
    · rfl
    · split
      · rfl
      · dsimp only
        rw [raiseMessage_stores, setAsm_stores]
        split <;> split <;> rfl

@[simp] theorem dropSession_stores : (dropSession n s).stores = s.stores := discardHeld_stores ..

end

/-! ## The stores through the lanes' work -/

namespace StoreMoves

/-- R179: a notice that is raised keeps the bounds of the buffer. -/
theorem raiseNotice (l : Line) (s : State) : StoreMoves s (raiseNotice l s) := by
  rcases raiseNotice_cases l s with ⟨-, h⟩ | ⟨-, hroom, h⟩ | ⟨-, -, h⟩ <;> rw [h] <;>
    refine link fun hs => ?_
  · exact hs
  · refine ⟨?_, hs.2⟩
    simp only [List.length_append, List.length_singleton]
    exact hroom
  · exact ⟨hs.1, min_le_left ..⟩

theorem raiseBoth (l : Line) (s : State) : StoreMoves s (raiseBoth l s) :=
  (raiseNotice (.word "!" :: l) s).trans (of_stores (raiseMessage_stores ..))

/-- R178, R180: the transmitter takes a notice, and the GAP line enters in its place. -/
theorem pump (s : State) : StoreMoves s (pump s) := by
  refine link fun hs => ?_
  rcases take_cases s.link with ⟨-, h⟩ | ⟨r, -, -, h⟩ | ⟨l, rest, -, -, hn, h⟩ | ⟨-, -, -, h⟩
  · rwa [h]
  · rw [h]; exact hs
  · have hrest : rest.length + 1 ≤ Config.noticePlaces := by simpa [NoticesFit, hn] using hs.1
    rw [h]
    split
    · exact ⟨by simpa using hrest, Nat.zero_le _⟩
    · exact ⟨Nat.le_of_succ_le hrest, hs.2⟩
  · rwa [h]

/-- R63. -/
theorem consume (n : Nat) (s : State) : StoreMoves s (consume n s) := by
  unfold Machine.consume
  split
  · exact refl s
  · rename_i a ha
    exact setAccount ha (.single (.mark a (a.consumed + 1) a.voided a.armed))

/-- R64, R65. -/
theorem returnNumber (n m : Nat) (s : State) : StoreMoves s (returnNumber n m s).2 := by
  unfold Machine.returnNumber
  split
  · exact refl s
  · rename_i a ha
    split
    · rename_i hroom
      exact setAccount ha (.trans (.single (.giveBack a m hroom)) (warnAfterRise_moves _))
    · exact setAccount ha (.single (.mark a a.consumed (a.voided + 1) a.armed))

theorem returnAll (l : List Delivery) (s : State) : StoreMoves s (returnAll l s).2 := by
  induction l generalizing s with
  | nil => exact refl s
  | cons d l ih =>
    unfold Machine.returnAll
    split
    · exact (returnNumber _ _ s).trans (ih _)
    · exact ih s

/-- R12. -/
theorem deliveryStart (lane slot : Nat) (s : State) : StoreMoves s (deliveryStart lane slot s) := by
  rw [deliveryStart_eq]
  exact keys_of_moves (deliveryStart_moves lane slot s)

theorem startDelivery (n : Nat) (s : State) : StoreMoves s (startDelivery n s) := by
  unfold Machine.startDelivery
  split
  · exact refl s
  · rename_i d _
    have h := (of_stores (modDelivery_stores s n fun d => { d with phase := .delivering })).trans (deliveryStart n d.slot _)
    dsimp only
    split
    · exact h.trans (consume _ _)
    · exact h

theorem transmitStart (n : Nat) (f : OutFrame) (s : State) : StoreMoves s (transmitStart n f s) := by
  have hline : (s.modLine n fun l => { l with
      tx := .sending f l.rate l.parity (frameChars f.kind.code f.body), next := none, rx := .closed,
      gapTimer := none }).stores = s.stores := modLine_stores s n
  unfold Machine.transmitStart
  dsimp only
  split
  · exact of_stores hline
  · split
    · exact of_stores hline
    · split
      · exact (of_stores ((modCtx_stores ..).trans hline)).trans (startDelivery n _)
      · exact of_stores ((modCtx_stores ..).trans hline)

theorem handFrame (n : Nat) (k : RequestKind) (b : Text) (s : State) : StoreMoves s (handFrame n k b s) := by
  have hline (k : RequestKind) : ((s.setStage n .frame).modLine n fun l => { l with expected := some k.expects }).stores =
      s.stores := (modLine_stores _ n).trans (setStage_stores ..)
  unfold Machine.handFrame
  split
  · exact refl s
  · dsimp only
    split
    · exact (of_stores (hline k)).trans (transmitStart n _ _)
    · exact of_stores ((modLine_stores _ n).trans (hline k))

theorem takeOutput (r : LaneRequest) (n : Nat) (i : CipherInput) (s : State) : StoreMoves s (takeOutput r n i s).1 := by
  unfold Machine.takeOutput
  split
  · exact refl s
  · split
    · exact refl s
    · split
      · exact refl s
      · split
        · exact of_stores (by simp)
        · exact of_stores (by simp)
        · exact (of_stores (modCtx_stores ..)).trans (handFrame n _ _ _)

end StoreMoves

/-! ### The reservation of issue numbers (R60, R61, R84) -/

/-- R60: the first pass finds every account open. -/
theorem reserveTest_none {s : State} {l : List (Nat × Nat)} (h : reserveTest s l = none) :
    ∀ w ∈ l, ∃ a, s.accountAt w.2 = some a ∧ a.exhausted = false := by
  induction l with
  | nil => exact fun _ hw => absurd hw List.not_mem_nil
  | cons w l ih =>
    unfold reserveTest at h
    split at h
    · cases h
    · rename_i a ha
      split_ifs at h with he
      exact List.forall_mem_cons.2 ⟨⟨a, ha, by simpa using he⟩, ih h⟩

/-- R179: several notices raised in turn. -/
def raiseAll (ls : List Line) (s : State) : State := ls.foldl (fun t l => raiseNotice l t) s

theorem raiseAll_accounts (ls : List Line) (s : State) : (raiseAll ls s).accounts = s.accounts := by
  induction ls generalizing s with
  | nil => rfl
  | cons l ls ih => exact (ih _).trans (raiseNotice_accounts s l)

theorem StoreMoves.raiseAll (ls : List Line) (s : State) : StoreMoves s (raiseAll ls s) := by
  induction ls generalizing s with
  | nil => exact refl s
  | cons l ls ih => exact (raiseNotice l s).trans (ih _)

/-- R61, R66, R67: one reservation draws on the account, sets its warning, and sends notices. -/
theorem reserveOne_eq (n : Nat) (a : Account) (s : State) : ∃ armed ls,
    (reserveOne n a s).2 = raiseAll ls (s.setAccount n (some { (drawNumber a).2 with armed := armed })) := by
  unfold reserveOne
  dsimp only
  split
  · split
    · exact ⟨false, [_, _], rfl⟩
    · exact ⟨false, [_], rfl⟩
  · split
    · exact ⟨(drawNumber a).2.armed, [_], rfl⟩
    · exact ⟨(drawNumber a).2.armed, [], rfl⟩

theorem reserveOne_accountAt {n m : Nat} (a : Account) (s : State) (h : n ≠ m) :
    (reserveOne n a s).2.accountAt m = s.accountAt m := by
  obtain ⟨armed, ls, hr⟩ := reserveOne_eq n a s
  rw [hr, State.accountAt, raiseAll_accounts]
  exact look_put_ne _ _ _ _ _ h

theorem StoreMoves.reserveOne {n : Nat} {a : Account} {s : State} (ha : s.accountAt n = some a)
    (he : a.exhausted = false) : StoreMoves s (reserveOne n a s).2 := by
  obtain ⟨armed, ls, hr⟩ := reserveOne_eq n a s
  rw [hr]
  exact (setAccount ha (.trans (.single (.draw a he)) (.single (.arm _ armed)))).trans (raiseAll _ _)

theorem reserveAll_boundsKept (l : List (Nat × Nat)) (s : State) : BoundsKept s (reserveAll l s).2 := by
  induction l generalizing s with
  | nil => exact .refl s
  | cons w l ih =>
    unfold reserveAll
    split
    · exact ih s
    · rename_i a _
      obtain ⟨armed, ls, hr⟩ := reserveOne_eq w.2 a s
      have hset : BoundsKept s (s.setAccount w.2 (some { (drawNumber a).2 with armed := armed })) :=
        { BoundsKept.refl s with }
      refine BoundsKept.trans ?_ (ih _)
      rw [hr]
      exact hset.trans (StoreMoves.raiseAll ls _).toBoundsKept

/-- R60: the second pass draws on each account once, so none is drawn on past its last number. -/
theorem StoreMoves.reserveAll {l : List (Nat × Nat)} {s : State} (hnd : (l.map Prod.snd).Nodup)
    (h : ∀ w ∈ l, ∃ a, s.accountAt w.2 = some a ∧ a.exhausted = false) : StoreMoves s (reserveAll l s).2 := by
  induction l generalizing s with
  | nil => exact refl s
  | cons w l ih =>
    obtain ⟨⟨a, ha, he⟩, hl⟩ := List.forall_mem_cons.1 h
    obtain ⟨hw, hnd⟩ := List.nodup_cons.1 hnd
    unfold Machine.reserveAll
    simp only [ha]
    refine (reserveOne ha he).trans (ih hnd fun w' hw' => ?_)
    have hne : w.2 ≠ w'.2 := fun heq => hw (heq ▸ List.mem_map_of_mem hw')
    rw [reserveOne_accountAt a s hne]
    exact hl w' hw'

/-- Table 4-4: what a step that passes the walk has passed, of what a reservation needs. -/
theorem stepFault_none {before : List Step} {st : Step} (h : stepFault before st = none) : st.operandsOk = true ∧
    (st.kind = .loadDerived → ∀ x ∈ before, x.kind = .loadDerived → x.slot ≠ st.slot) := by
  unfold stepFault at h
  dsimp only at h
  split_ifs at h with h1 h2 h3 h4
  exact ⟨by simpa using h1, fun hk x hx hxk hs => h4 (by simp [hk]; exact ⟨x, hx, hxk, hs⟩)⟩

/-- The root slots that the steps draw on, in step order. -/
def rootSlots (steps : List Step) : List (Option Nat) :=
  (steps.filter fun st => st.kind = .loadDerived).map Step.slot

/-- R84: a walk that finds no fault leaves every root slot given, and none twice. -/
theorem walkDraft_rootSlots {before steps : List Step} (h : walkDraft before steps = none)
    (hb : (rootSlots before).Nodup ∧ none ∉ rootSlots before) :
    (rootSlots (before ++ steps)).Nodup ∧ none ∉ rootSlots (before ++ steps) := by
  induction steps generalizing before with
  | nil => simpa using hb
  | cons st steps ih =>
    unfold walkDraft at h
    split at h
    · cases h
    · rename_i hf
      obtain ⟨hok, hroot⟩ := stepFault_none hf
      rw [List.append_cons]
      refine ih h ?_
      by_cases hk : st.kind = .loadDerived
      · have hsome : st.slot ≠ none := fun hn => by simp [Step.operandsOk, hk, hn, presentBelow] at hok
        have hnew : st.slot ∉ rootSlots before := by
          simp only [rootSlots, List.mem_map, List.mem_filter, decide_eq_true_eq, not_exists, not_and]
          exact fun x hx => hroot hk x hx.1 hx.2
        have happ : rootSlots (before ++ [st]) = rootSlots before ++ [st.slot] := by simp [rootSlots, hk]
        rw [happ]
        refine ⟨List.nodup_append.2 ⟨hb.1, by simp, ?_⟩, by simp [hb.2, hsome.symm]⟩
        intro x hx y hy hxy
        rw [List.mem_singleton.1 hy] at hxy
        exact hnew (hxy ▸ hx)
      · have happ : rootSlots (before ++ [st]) = rootSlots before := by simp [rootSlots, hk]
        rwa [happ]

theorem issueWants_slots (steps : List Step) :
    (issueWants steps).map Prod.snd = (rootSlots steps).map fun x => x.getD 0 := by
  have hloads : ((loadsOf steps).filter fun p => p.2.kind = .loadDerived) =
      (steps.zipIdx.map fun p => (p.2, p.1)).filter fun p => p.2.kind = .loadDerived := by
    rw [loadsOf, List.filter_filter]
    refine List.filter_congr fun p _ => ?_
    cases p.2.kind <;> rfl
  have hsteps : (steps.zipIdx.filter fun p => p.1.kind = .loadDerived).map Prod.fst =
      steps.filter fun st => st.kind = .loadDerived := by
    conv_rhs => rw [← List.zipIdx_map_fst 0 steps, List.filter_map]
    rfl
  rw [issueWants, hloads, rootSlots, ← hsteps]
  simp [List.filter_map, Function.comp_def]

/-- R84: a valid version draws on no root slot twice. -/
theorem issueWants_nodup {steps : List Step} (h : draftFault steps = none) :
    ((issueWants steps).map Prod.snd).Nodup := by
  have hwalk : walkDraft [] steps = none := by
    unfold draftFault at h
    split_ifs at h
    exact h
  obtain ⟨hnd, hsome⟩ := walkDraft_rootSlots hwalk ⟨List.nodup_nil, List.not_mem_nil⟩
  rw [issueWants_slots]
  refine hnd.map_on fun x hx y hy hxy => ?_
  cases x with
  | none => exact absurd hx hsome
  | some x =>
    cases y with
    | none => exact absurd hy hsome
    | some y => exact congrArg some hxy

/-- R60, R84: a reservation request for an installed version. -/
theorem StoreMoves.reserveIssue {p : Nat} {v : Version} {s t : State} {ts : List (Nat × Tki)}
    (hv : (s.planAt p).installed = some v) (h : reserveIssue (issueWants v.steps) s = .ok (ts, t)) : StoreMoves s t := by
  obtain ⟨htest, hall⟩ := reserveIssue_ok h
  obtain rfl : (Machine.reserveAll (issueWants v.steps) s).2 = t := congrArg Prod.snd hall
  exact ⟨reserveAll_boundsKept _ s, fun hs =>
    (reserveAll (issueWants_nodup (hs p v (.inl hv))) (reserveTest_none htest)).accounts hs⟩

end Sys2Proof.Machine

namespace Sys2Proof.Machine

/-- The installed versions are part of the stores. -/
theorem installed_of_stores {s t : State} (h : t.stores = s.stores) (p : Nat) :
    (t.planAt p).installed = (s.planAt p).installed :=
  congrArg Prod.fst (congrFun (congrArg (fun x => x.2.2.1) h) p)

namespace StoreMoves

/-! ### Runs: start, steps and end (R110 to R131) -/

/-- R112, R121: the two requests for an installed version. -/
theorem bindKeys {p : Nat} {v : Version} {s : State} (hv : (s.planAt p).installed = some v) (n : Nat)
    (old : List Delivery) : StoreMoves s (bindKeys n v.steps old s).1 := by
  unfold Machine.bindKeys
  split
  · exact refl s
  · rename_i s1 hb
    obtain ⟨slots, -, rfl⟩ := bindSlots_ok hb
    have hsync {u : State} {f : RunContext → RunContext} : (syncOpen n (u.modCtx n f)).stores = u.stores := by simp
    have hbound := (keys_of_moves (s := s) (bindSlots_moves hb)).trans (of_stores (hsync
      (f := fun c => { c with deliveries := old ++ newDeliveries v.steps [] })))
    dsimp only
    split
    · exact hbound
    · rename_i hr
      refine (hbound.trans (reserveIssue (p := p) ?_ hr)).trans (of_stores hsync)
      rw [installed_of_stores hsync]
      exact hv

theorem routeStep (n : Nat) (c : RunContext) (s : State) : StoreMoves s (routeStep n c s).1 := by
  unfold Machine.routeStep
  split
  · exact refl s
  · split
    · exact refl s
    · exact refl s
    · rename_i p _ _ _ v s1 hb
      have hs1 : (s1.modCtx n fun c => { c with routed := some (p, v.number) }).stores = s.stores :=
        (modCtx_stores ..).trans (bindVersion_stores s n hb)
      have h := (of_stores hs1).trans
        (bindKeys (p := p) ((installed_of_stores hs1 p).trans (bindVersion_ok hb).1) n c.deliveries)
      dsimp only
      split <;> rename_i hk <;> rw [hk] at h
      · exact h
      · exact h.trans (of_stores (modCtx_stores ..))

theorem beginStep (n : Nat) (s : State) : StoreMoves s (beginStep n s).1 := by
  have hwaits : (s.modCtx n fun c => { c with waits := 0 }).stores = s.stores := modCtx_stores ..
  unfold Machine.beginStep
  dsimp only
  split
  · exact of_stores hwaits
  · split
    · exact of_stores hwaits
    · split
      · exact of_stores ((beginAwait_stores ..).trans hwaits)
      · exact of_stores (by simp)
      · exact (of_stores hwaits).trans (routeStep n _ _)
      · exact of_stores (by simp)
      · exact of_stores (by simp)
      all_goals exact (of_stores hwaits).trans (handFrame n _ _ _)

theorem proceed (k n : Nat) (r : State × StepEnd) : StoreMoves r.1 (proceed k n r).1 := by
  induction k generalizing r with
  | zero => exact refl _
  | succ k ih =>
    obtain ⟨s, e⟩ := r
    cases e with
    | wait => exact refl _
    | fin o a => exact refl _
    | routed =>
      unfold Machine.proceed
      split
      · exact refl _
      · exact (beginStep n s).trans (ih _)
    | done =>
      have hn := nextStep_stores (clearAwait n s) n
      unfold Machine.proceed
      split <;> rename_i h <;> rw [h, clearAwait_stores] at hn
      · exact of_stores hn
      · split
        · exact of_stores hn
        · exact (of_stores hn).trans ((beginStep n _).trans (ih _))

/-- R164: a granted reservation takes a free place. -/
theorem openRun {s : State} (hfree : placeFree s = true) (n : Nat) (q : RunRequest) : StoreMoves s (openRun n q s) := by
  have hplace : s.records.entries.length < Config.recordPlaces := by simpa [placeFree] using hfree
  refine (queue fun _ => ?_).trans (of_stores (modLane_stores _ n))
  simp only [RecordsFit, List.length_append, List.length_singleton]
  exact hplace

theorem startRun {s : State} (hfree : placeFree s = true) (n : Nat) (q : RunRequest) :
    StoreMoves s (startRun n q s).1 := by
  have hopen := openRun hfree n q
  unfold Machine.startRun
  dsimp only
  split
  · exact hopen
  · exact hopen
  · rename_i v s1 hb
    have hs1 : (syncOpen n (s1.modCtx n fun c => { c with version := some v.number, steps := v.steps })).stores =
        (Machine.openRun n q s).stores := by
      rw [syncOpen_stores, modCtx_stores]
      exact bindVersion_stores _ n hb
    have h := (hopen.trans (of_stores hs1)).trans
      (bindKeys (p := q.plan) ((installed_of_stores hs1 _).trans (bindVersion_ok hb).1) n [])
    split <;> rename_i hk <;> rw [hk] at h
    · exact h
    · exact h.trans ((beginStep n _).trans (proceed ..))

theorem refuseRecord (n : Nat) (s : State) : StoreMoves s (refuseRecord n s) := by
  unfold Machine.refuseRecord
  dsimp only
  split
  · exact queue_of_entries rfl
  · refine (queue_of_entries ?_).trans (raiseNotice _ _)
    rfl

theorem holdLane (n : Nat) (q : RunRequest) (s : State) : StoreMoves s (holdLane n q s) := by
  have hheld : (s.modLane n fun l => { l with state := .held }).stores = s.stores := modLane_stores s n
  unfold Machine.holdLane
  dsimp only
  split
  · exact (of_stores hheld).trans (refuseRecord n _)
  · exact (of_stores hheld).trans ((raiseNotice _ _).trans (refuseRecord n _))

theorem runStart (n : Nat) (s : State) : StoreMoves s (runStart n s).1 := by
  unfold Machine.runStart
  split
  · exact refl s
  · split
    · exact startRun ‹_› n _
    · exact holdLane n _ s

/-- R88: a release leaves a plan its versions, or one less. -/
theorem releaseVersion (n p v : Nat) (s : State) : StoreMoves s (releaseVersion n p v s) := by
  refine setPlan fun x hx => .inl ?_
  unfold Plan.release at hx
  dsimp only at hx
  split at hx
  · exact hx
  · split at hx
    · dsimp only at hx
      split at hx
      · exact hx.elim .inl nofun
      · exact hx
    · exact hx

theorem releaseVersions (n : Nat) (c : RunContext) (s : State) : StoreMoves s (releaseVersions n c s) := by
  unfold Machine.releaseVersions
  dsimp only
  split <;> split
  · exact (releaseVersion ..).trans (releaseVersion ..)
  · exact releaseVersion ..
  · exact releaseVersion ..
  · exact refl s

end StoreMoves

/-- R131: what is left of a queue is no longer than it was. -/
theorem queueAfter_length_le (o : Outcome) (b : Bool) (l : List RunRequest) : (queueAfter o b l).length ≤ l.length := by
  cases l with
  | nil => exact le_rfl
  | cons q rest =>
    rw [queueAfter]
    split
    · exact Nat.zero_le _
    · split
      · exact Nat.le_add_left ..
      · exact Nat.le_succ _

namespace StoreMoves

theorem releaseLane (n : Nat) (s : State) : StoreMoves s (releaseLane n s) :=
  keys_of_moves (releaseLane_moves n s)

theorem runEnd (n : Nat) (stop : RunStop) (s : State) : StoreMoves s (runEnd n stop s) := by
  unfold Machine.runEnd
  split
  · exact refl s
  · rename_i c _
    have hback := (of_stores (stopRun_stores s n)).trans (returnAll c.deliveries _)
    have hrelease := hback.trans (releaseLane n _)
    have hclose {u : State} {o k v} : StoreMoves u (closeRecord n o k v (syncOpen n u)) := of_stores (by simp)
    have hserved {u : State} : StoreMoves u (markServed n c (Machine.releaseVersions n c u)) :=
      (releaseVersions n c u).trans (of_stores (markServed_stores ..))
    exact (((hrelease.trans hclose).trans hserved).trans (raiseNotice _ _)).trans
      (modLane fun hl => (queueAfter_length_le ..).trans hl)

theorem settleRun (k n : Nat) (r : State × Option RunStop) : StoreMoves r.1 (settleRun k n r) := by
  induction k generalizing r with
  | zero => exact refl _
  | succ k ih =>
    obtain ⟨s, o⟩ := r
    cases o with
    | none => exact refl _
    | some stop => exact (runEnd n stop s).trans ((runStart n _).trans (ih _))

theorem goOn (n : Nat) (r : State × StepEnd) : StoreMoves r.1 (goOn n r) := (proceed ..).trans (settleRun ..)
theorem endRun (n : Nat) (o : Outcome) (s : State) : StoreMoves s (endRun n o s) :=
  settleRun _ n (s, some (o, none))
theorem startAt (n : Nat) (s : State) : StoreMoves s (startAt n s) := (runStart ..).trans (settleRun ..)

/-- A run that goes on from a step that left the stores as they were. -/
theorem goOn_of_stores {s : State} {r : State × StepEnd} (n : Nat) (h : r.1.stores = s.stores) :
    StoreMoves s (Machine.goOn n r) := (of_stores h).trans (goOn n r)

/-! ### The events of the lanes and their lines -/

theorem timerExpiry (n : Nat) (s : State) : StoreMoves s (timerExpiry n s) := by
  unfold Machine.timerExpiry
  split
  · dsimp only
    split
    · exact goOn_of_stores n (clearAwait_stores s n)
    · exact goOn_of_stores n (clearAwait_stores s n)
    · exact refl s
    · split <;> exact goOn_of_stores n (by simp)
  · exact refl s

theorem terminalArrived (n : Nat) (s : State) : StoreMoves s (terminalArrived n s) := by
  unfold Machine.terminalArrived
  split
  · exact refl s
  · split
    · exact goOn n (s, _)
    · exact refl s

theorem terminalRemoved (n : Nat) (s : State) : StoreMoves s (terminalRemoved n s) := by
  have hline : (s.modLine n fun l => { l with served := false }).stores = s.stores := modLine_stores s n
  unfold Machine.terminalRemoved
  dsimp only
  split
  · exact of_stores hline
  · split
    · exact of_stores hline
    · exact (of_stores ((endDelivery_stores ..).trans hline)).trans (endRun n _ _)

theorem settleExpiry (n : Nat) (s : State) : StoreMoves s (settleExpiry n s) := by
  unfold Machine.settleExpiry
  split
  · exact refl s
  · dsimp only
    split
    · exact (of_stores (modLine_stores s n)).trans (terminalArrived n _)
    · exact (of_stores (modLine_stores s n)).trans (terminalRemoved n _)

/-- R143: a dropped frame is counted, up to 65,535. -/
theorem drop (n : Nat) (s : State) : StoreMoves s (s.modLine n BenchLine.drop) :=
  modLine fun _ hl => ⟨min_le_left .., hl.2⟩

theorem frameArrived (n : Nat) (k : Byte) (b : Text) (c : BitVec 16) (x : Bool) (s : State) :
    StoreMoves s (frameArrived n k b c x s) := by
  unfold Machine.frameArrived
  split
  · exact drop n s
  · split
    · exact modLine fun _ hl => ⟨hl.1, min_le_left ..⟩
    · exact goOn_of_stores n ((takeReply_stores ..).trans (modLine_stores s n))

theorem overlongHeader (n : Nat) (s : State) : StoreMoves s (overlongHeader n s) := by
  unfold Machine.overlongHeader
  split
  · exact drop n s
  · exact refl s

theorem benchFrame (n : Nat) (k : Byte) (b : Text) (c : BitVec 16) (x : Bool) (s : State) :
    StoreMoves s (benchFrame n k b c x s) := by
  unfold Machine.benchFrame
  split
  · exact refl s
  · split
    · exact overlongHeader n s
    · exact frameArrived n k b c x s

theorem benchCharacter (n : Nat) (c : Byte) (p x : Bool) (s : State) : StoreMoves s (benchCharacter n c p x s) := by
  unfold Machine.benchCharacter
  dsimp only
  split
  · exact refl s
  · split
    · exact of_stores (modLine_stores s n)
    · exact refl s
  · unfold collectChar
    dsimp only
    split
    · exact overlongHeader n s
    · split
      · exact frameArrived ..
      · exact of_stores (modLine_stores s n)

theorem gapExpiry (n : Nat) (s : State) : StoreMoves s (gapExpiry n s) := by
  unfold Machine.gapExpiry
  split
  · exact drop n s
  · exact refl s

theorem beginWaiting (n : Nat) (s : State) : StoreMoves s (beginWaiting n s) := by
  unfold Machine.beginWaiting
  split
  · exact transmitStart ..
  · exact refl s

theorem transmitEnd (n : Nat) (s : State) : StoreMoves s (transmitEnd n s) := by
  unfold Machine.transmitEnd
  split
  · exact refl s
  · dsimp only
    exact (of_stores ((loadStepTimer_stores ..).trans (modLine_stores s n))).trans (beginWaiting n _)

theorem retryReservation (n : Nat) (s : State) : StoreMoves s (retryReservation n s) := by
  unfold Machine.retryReservation
  split
  · refine (queue_of_entries ?_).trans (startAt n _)
    rfl
  · exact refl s

theorem tamperLane (n : Nat) (s : State) : StoreMoves s (tamperLane n s) := by
  unfold Machine.tamperLane
  split
  · exact (of_stores (endDelivery_stores ..)).trans (runEnd n _ _)
  · exact (of_stores (leaveWaiting_stores s n)).trans (modLane fun _ => Nat.zero_le _)
  · exact refl s
  · exact refl s

theorem tamperLanes (s : State) : StoreMoves s (tamperLanes s) := by
  unfold Machine.tamperLanes
  generalize List.range 8 = l
  induction l generalizing s with
  | nil => exact refl s
  | cons n l ih => exact ((tamperLane n s).trans (of_stores (tamperLine_stores ..))).trans (ih _)

/-! ### The lanes' requests -/

theorem abortRun (n : Nat) (s : State) : StoreMoves s (abortRun n s).2 := by
  unfold Machine.abortRun
  split
  · exact refl s
  · split
    · exact endRun n _ s
    · exact of_stores (modCtx_stores ..)

theorem abortHeld (n : Nat) (s : State) : StoreMoves s (abortHeld n s) := by
  have htail : StoreMoves s ((leaveWaiting n s).modLane n fun l => { l with queue := l.queue.tail }) :=
    (of_stores (leaveWaiting_stores s n)).trans
      (modLane fun hl => by simp only [List.length_tail]; omega)
  unfold Machine.abortHeld
  dsimp only
  split
  · exact htail.trans (of_stores (modLane_stores _ n))
  · exact htail.trans (startAt n _)

theorem abortLane (n : Arg Nat) (f : Arg Unit) (s : State) : Ends (StoreMoves s) (abortLane n f s) := by
  refine .num (refl s) fun n => .opt (refl s) fun fl => .below (refl s) fun _ => ?_
  have hflush : StoreMoves s (s.modLane n fun l => { l with queue := flushQueue fl.isSome (s.laneAt n).queue }) := by
    refine modLane fun hl => ?_
    unfold flushQueue
    split
    · exact (List.length_take_le _ _).trans (by decide)
    · exact hl
  dsimp only [Ends]
  split
  · exact hflush
  · exact hflush
  · exact hflush.trans (abortHeld n _)
  · exact hflush.trans (abortRun n _)

theorem queueRun (n p c t : Arg Nat) (s : State) : Ends (StoreMoves s) (queueRun n p c t s) := by
  refine .num (refl s) fun n => .num (refl s) fun p => .optNum (refl s) fun c => .optNum (refl s) fun t =>
    .ite (fun _ => refl s) fun _ => .ite (fun _ => refl s) fun _ => .ite (fun _ => refl s) fun _ =>
    .ite (fun _ => refl s) fun hroom => ?_
  have hqueued {q : RunRequest} : StoreMoves s (s.modLane n fun l => { l with queue := l.queue ++ [q] }) :=
    modLane fun _ => by simp only [List.length_append, List.length_singleton]; omega
  dsimp only [Ends]
  split
  · exact hqueued.trans (startAt n _)
  · exact hqueued

end StoreMoves

end Sys2Proof.Machine

namespace Sys2Proof.Machine

namespace StoreMoves

/-! ### The Cipher Unit and the custodians -/

theorem keyFaults (l : List FaultNote) (s : State) : StoreMoves s (keyFaults l s) := by
  induction l generalizing s with
  | nil => exact refl s
  | cons f l ih =>
    obtain ⟨q, o, n⟩ := f
    unfold Machine.keyFaults
    refine StoreMoves.trans ?_ (ih _)
    split
    · exact endRun q _ s
    · exact refl s

theorem unitFree (s : State) : StoreMoves s (unitFree s) := by
  obtain ⟨u, hu⟩ := serveWaiting_cipher { s with cipher := { s.cipher with executing := none } } 10
  have hserved : (serveWaiting 10 { s with cipher := { s.cipher with executing := none } }).1.stores = s.stores := by
    rw [hu]; rfl
  exact (of_stores hserved).trans (keyFaults _ _)

/-- R50: the assembly's slot becomes EMPTY. -/
theorem cancelAssembly (cause : String) (s : State) : StoreMoves s (cancelAssembly cause s) := by
  unfold Machine.cancelAssembly
  split
  · exact refl s
  · rename_i a _
    exact (of_stores (withdraw_stores s reqAssembler)).trans
      (((emptySlot _ a.slot).trans (of_stores (setAsm_stores _ none))).trans (raiseBoth _ _))

theorem rederive (cause : String) (s : State) : StoreMoves s (rederive cause s) := by
  have htold {u : State} {l m : Line} : StoreMoves u (raiseMessage m (Machine.raiseNotice l u)) :=
    (raiseNotice l u).trans (of_stores (raiseMessage_stores ..))
  unfold Machine.rederive
  dsimp only
  split
  · exact refl s
  · split
    · refine StoreMoves.trans ?_ (htold.trans (cancelAssembly _ _))
      exact of_stores rfl
    · refine StoreMoves.trans ?_ htold
      exact of_stores rfl

theorem dualExpiry (s : State) : StoreMoves s (dualExpiry s) := by
  have drop (l : List Nat) : ∀ u : State, (l.foldl (fun t id => dropSession id t) u).stores = u.stores := by
    induction l with
    | nil => exact fun _ => rfl
    | cons id l ih => exact fun u => (ih _).trans (dropSession_stores u id)
  unfold Machine.dualExpiry
  split
  · exact refl s
  · exact (of_stores (drop _ s)).trans (rederive _ _)

theorem confirmChecks (id : Nat) {k : Assembly → HeldComponent → PanelAnswer × State} {s : State}
    (hk : ∀ a c, StoreMoves s (k a c).2) : StoreMoves s (confirmChecks id s k).2 := by
  unfold Machine.confirmChecks
  split
  · exact refl s
  · split
    · exact refl s
    · split_ifs
      exacts [refl s, refl s, refl s, hk _ _]

theorem openSession (id : Nat) (c : Custodian) (s : State) : StoreMoves s (openSession id c s).2 := by
  have hc : (s.setCustodian id (some { c with failed := 0 })).stores = s.stores := setCustodian_stores ..
  refine StoreMoves.trans ?_ (rederive "LOGON" _)
  exact of_stores hc

/-- Table 2-4: the panel's commands. -/
theorem panelAnswer (l : PanelLine) (s : State) : StoreMoves s (panelAnswer l s).2 := by
  unfold Machine.panelAnswer
  split
  iterate 3 exact refl s
  · unfold newcode
    split
    · exact refl s
    · split
      · exact refl s
      · split_ifs
        exacts [refl s, refl s, of_stores (setCustodian_stores ..)]
  · unfold logon
    split
    · exact refl s
    · split
      · exact refl s
      · split
        · exact refl s
        · exact refl s
        · split_ifs
          · exact refl s
          · exact refl s
          · exact openSession ..
          · unfold wrongPasscode
            split <;> exact of_stores (setCustodian_stores ..)
  · unfold logoff
    split_ifs
    exacts [refl s, refl s, (of_stores (dropSession_stores s _)).trans (rederive _ _)]
  · exact refl s
  · unfold component
    split
    · exact refl s
    · split_ifs
      iterate 7 exact refl s
      exact of_stores (by simp)
  · refine confirmChecks _ fun a c => ?_
    dsimp only
    split
    · exact of_stores (by simp [finishAssembly])
    · exact of_stores (setAsm_stores ..)
  · exact confirmChecks _ fun _ _ => of_stores (setAsm_stores ..)
  · exact refl s

theorem scrubExpiry (s : State) : StoreMoves s (scrubExpiry s) := by
  unfold Machine.scrubExpiry
  split
  · exact refl s
  · dsimp only
    split
    · exact of_stores rfl
    · split
      · exact of_stores rfl
      · exact of_stores (post_stores ..)

/-- R45, R48: what the Assembler takes from a CHECK. -/
theorem asmCheckDone (k : BitVec 16) (cv : CheckValue) (s : State) : StoreMoves s (asmCheckDone k cv s) := by
  unfold Machine.asmCheckDone
  split
  · exact refl s
  · split
    · exact refl s
    · split
      · split
        · exact refl s
        · exact of_stores (by simp)
      · split
        · exact ((emptySlot s _).trans (of_stores (setAsm_stores ..))).trans (raiseBoth _ _)
        · split
          · exact refl s
          · exact of_stores (by simp)
      · exact refl s

/-- R48: the finished slot becomes ACTIVE. -/
theorem asmTagDone (k : BitVec 16) (tag : Text) (s : State) : StoreMoves s (asmTagDone k tag s) := by
  unfold Machine.asmTagDone
  split
  · exact refl s
  · split
    · exact refl s
    · split
      · exact refl s
      · rename_i a _ _ _ r hr
        have hactive : StoreMoves s (s.setSlot a.slot (some { r with
            state := .active
            material := some { key := a.finished.getD [], cv := a.finishedCv.getD 0, tag := tag } })) :=
          setSlot (hr ▸ .replace rfl fun _ => nofun)
        refine (hactive.trans ?_).trans (raiseBoth _ _)
        exact of_stores rfl

/-- R16: a slot that fails its scrub becomes FAULTED. -/
theorem scrubCompare (n : Nat) (k : BitVec 16) (out : Text) (b : Bool) (s : State) :
    StoreMoves s (scrubCompare n k out b s) := by
  unfold Machine.scrubCompare
  split
  · exact refl s
  · split
    · rename_i r hr
      split
      · split_ifs
        · exact refl s
        · exact (setSlot (hr ▸ .replace rfl fun _ => nofun)).trans (raiseNotice _ _)
        · exact refl s
      · exact refl s
    · exact refl s

theorem cipherComplete (b : Bool) (s : State) : StoreMoves s (cipherComplete b s) := by
  unfold Machine.cipherComplete
  split
  · exact refl s
  · refine StoreMoves.trans ?_ (unitFree _)
    split
    · exact refl s
    · unfold handOutput
      split
      · exact (takeOutput ..).trans (goOn ..)
      · exact asmCheckDone ..
      · exact asmTagDone ..
      · exact scrubCompare ..

/-! ### The tamper event, power and start-up -/

theorem tamperEvent (s : State) : StoreMoves s (tamperEvent s) := by
  have horders : StoreMoves s (tamperOrders s) :=
    of_erased { BoundsKept.refl s with } rfl
  have hauth (b : AuthState) (u : State) : StoreMoves u (tamperAuth b u) := by
    unfold tamperAuth
    split
    · exact refl u
    · exact (raiseNotice _ u).trans (of_stores (raiseMessage_stores ..))
  have hasm (b : Option Assembly) (u : State) : StoreMoves u (tamperAssembly b u) := by
    unfold tamperAssembly
    split
    · exact refl u
    · exact raiseBoth _ u
  unfold Machine.tamperEvent
  split
  · exact refl s
  · exact ((horders.trans (raiseNotice _ _)).trans ((hauth _ _).trans (hasm _ _))).trans (tamperLanes _)

theorem tamperPowerOff (s : State) : StoreMoves s (tamperPowerOff s) := by
  unfold Machine.tamperPowerOff
  split
  · exact refl s
  · exact of_erased { BoundsKept.refl s with } rfl

end StoreMoves

/-- R24, R188: the loss of bindings and reservations leaves the keys. -/
theorem clearBindings_stands (slots : Table 64 Slot) (n : Nat) :
    SlotStands (look slots none n) (look (clearBindings slots) none n) := by
  rw [show look (clearBindings slots) none n = _ from look_map slots _ none n]
  cases look slots none n with
  | none => exact .of_empty _
  | some r => exact .replace rfl id

/-- R89: a start-up leaves a plan its installed version. -/
theorem versionsValid_restarted {s t : State} (ht : t.plans = s.plans.map Plan.restarted) (h : VersionsValid s) :
    VersionsValid t := by
  intro n v hv
  have hn : t.planAt n = (s.planAt n).restarted := by
    rw [State.planAt, ht]
    exact look_map s.plans Plan.restarted .factory n
  rw [hn] at hv
  exact h n v (hv.imp id nofun)

namespace StoreMoves

theorem withoutVolatile (s : State) : StoreMoves s s.withoutVolatile where
  records := id
  notices _ := ⟨Nat.zero_le _, Nat.zero_le _⟩
  queues _ := (queuesFit_iff _).2 fun n => by
    rw [show s.withoutVolatile.laneAt n = _ from
      look_map s.lanes (fun l => Lane.down l.online l.ordinal) (.down false 0) n]
    exact Nat.zero_le _
  counters _ := (countersFit_iff _).2 fun n => by
    rw [show s.withoutVolatile.lineAt n = _ from
      look_map s.lines (fun l => BenchLine.down l.rate l.parity l.contact) (.down .r9600 .none false) n]
    exact ⟨Nat.zero_le _, Nat.zero_le _⟩
  valid := versionsValid_restarted rfl
  accounts _ n b hb := ⟨b, hb, .refl, clearBindings_stands s.keys.slots n⟩

theorem powerLoss (s : State) : StoreMoves s (powerLoss s) := by
  unfold Machine.powerLoss
  split
  · exact (withoutVolatile s).trans (of_stores rfl)
  · exact refl s

theorem powerOn (s : State) : StoreMoves s (powerOn s) := by
  have hoff (u : State) : StoreMoves u (reportOff u) := by
    unfold reportOff
    split
    · exact refl u
    · exact (raiseNotice _ u).trans (of_stores rfl)
  unfold Machine.powerOn
  split
  · exact refl s
  · refine StoreMoves.trans ?_ (hoff _)
    exact (withoutVolatile s).trans (of_stores rfl)

theorem startUpAfterRestart (s : State) : StoreMoves s (startUpAfterRestart s) := by
  unfold Machine.startUpAfterRestart
  split
  · exact { refl s with notices := fun _ => ⟨Nat.zero_le _, Nat.zero_le _⟩ }
  · exact refl s

/-- R189: the numbers of the runs interrupted are given back; no entry goes. -/
theorem resolveRecords (l : List Record) (s : State) :
    StoreMoves s (resolveRecords l s).2 ∧ (resolveRecords l s).1.length = l.length := by
  induction l generalizing s with
  | nil => exact ⟨refl s, rfl⟩
  | cons r l ih =>
    have hone : StoreMoves s (resolveRecord r s).2 := by
      unfold resolveRecord
      split
      · exact refl s
      · exact returnAll _ s
    obtain ⟨hrest, hlen⟩ := ih (resolveRecord r s).2
    exact ⟨hone.trans hrest, congrArg Nat.succ hlen⟩

/-- R188, steps 2 to 4: an ASSEMBLING slot, which is emptied, holds no key. -/
theorem settleStores (s : State) : StoreMoves s (settleStores s) := by
  have hemptied (x : Slot) : SlotStands x (if (x.map SlotRec.state) = some .assembling then none else x) := by
    intro r hr hst
    rw [if_neg (by simp [hr, hst])]
    exact ⟨r, hr, rfl, hst⟩
  have hslot (slots : Table 64 Slot) (n : Nat) : SlotStands (look slots none n) (look ((clearBindings slots).map fun x =>
      if (x.map SlotRec.state) = some .assembling then none else x) none n) := by
    rw [show look ((clearBindings slots).map _) none n = _ from look_map (clearBindings slots)
      (fun x : Slot => if (x.map SlotRec.state) = some .assembling then none else x) none n]
    exact (clearBindings_stands slots n).trans (hemptied _)
  obtain ⟨hback, hlen⟩ := resolveRecords s.records.entries s
  have hkeys := hback.trans (keys (k := (Machine.settleStores s).keys) (hslot _))
  exact { hkeys with
    records := fun h => by rw [RecordsFit, ← hlen] at h; exact h
    valid := fun h => versionsValid_restarted rfl (hkeys.valid h) }

theorem bringUp (m : Mode) (s : State) : StoreMoves s (bringUp m s) :=
  { refl s with
    queues := fun _ => (queuesFit_iff _).2 fun n => by rw [bringUp_laneAt]; exact Nat.zero_le _
    counters := fun _ => (countersFit_iff _).2 fun n => by
      rw [bringUp_lineAt]
      exact ⟨Nat.zero_le _, Nat.zero_le _⟩ }

theorem announce (c : StartCause) (m : Mode) (k : Nat) (s : State) : StoreMoves s (announce c m k s) := by
  have hstarted {u : State} (hu : u = { s with
      startUp := none
      link := { LinkPort.down with rx := .collecting, notices := [startedLine c m k] } }) : StoreMoves s u := by
    subst hu
    exact { refl s with notices := fun _ => ⟨by simp [Config.noticePlaces], Nat.zero_le _⟩ }
  exact (hstarted rfl).trans (raiseAll s.link.hold _)

theorem unitTested (m : Mode) (s : State) : StoreMoves s (unitTested m s) := by
  unfold Machine.unitTested
  split
  · refine StoreMoves.trans ?_ (unitFree _)
    exact of_stores rfl
  · exact of_stores rfl

theorem selfTestComplete (a b c d : Bool) (s : State) : StoreMoves s (selfTestComplete a b c d s) := by
  unfold Machine.selfTestComplete
  split
  · exact refl s
  · split
    · exact refl s
    · exact ((settleStores s).trans ((bringUp _ _).trans (announce ..))).trans (unitTested ..)

end StoreMoves

end Sys2Proof.Machine

namespace Sys2Proof.Machine

/-! ### The requests that leave the stores as they are -/

/-- A request that leaves the stores as they are. -/
abbrev EndsStores (s : State) : Answer × State → Prop := Ends fun t => t.stores = s.stores

section requests
variable (s : State)

theorem enrolCustodian_stores (id : Arg Nat) (g : Arg Group) (l : Arg Text) : EndsStores s (enrolCustodian id g l s) := by
  have h : (restartDual s).stores = s.stores := restartDual_stores s
  refine .num h fun n => .ite (fun _ => h) fun _ => .need h fun g => .opt h fun l => .ite (fun _ => h) fun _ => ?_
  split
  · exact h
  · exact (setCustodian_stores ..).trans h

theorem removeCustodian_stores (id : Arg Nat) : EndsStores s (removeCustodian id s) := by
  refine .num rfl fun n => .ite (fun _ => rfl) fun _ => ?_
  split
  · rfl
  · exact .ite (fun _ => rfl) fun _ => setCustodian_stores ..

theorem unlockCustodian_stores (id : Arg Nat) : EndsStores s (unlockCustodian id s) := by
  refine .num rfl fun n => .ite (fun _ => rfl) fun _ => ?_
  split
  · rfl
  · exact .ite (fun _ => setCustodian_stores ..) fun _ => rfl

theorem setDualWindow_stores (v : Arg Nat) : EndsStores s (setDualWindow v s) := .num rfl fun _ => restartDual_stores _
theorem setParityPolicy_stores (p : Arg Policy) : EndsStores s (setParityPolicy p s) := .need rfl fun _ => rfl
theorem setScrub_stores (v : Arg Nat) : EndsStores s (setScrub v s) := .num rfl fun _ => rfl
theorem acknowledgeTamper_stores : EndsStores s (acknowledgeTamper s) := .ite (fun _ => rfl) fun _ => rfl
theorem restart_stores : EndsStores s (restart s) := .ite (fun _ => rfl) fun _ => rfl

/-- R80: a draft that is stored leaves the versions. -/
theorem storeDraft_stores (p : Nat) (d : Draft) (more : List Item) : EndsStores s (storeDraft p d more s) :=
  setPlan_stores s p rfl rfl

theorem editPlanStep_stores (b : Bool) (p k : Arg Nat) (kd : Arg StepKind) (a : StepArgs) (x : Bool) :
    EndsStores s (editPlanStep b p k kd a x s) :=
  .index rfl fun _ _ => .num rfl fun _ => .need rfl fun _ => .ite (fun _ => rfl) fun _ => .ite (fun _ => rfl) fun _ =>
    storeDraft_stores ..

theorem editPlanDelete_stores (p k : Arg Nat) (x : Bool) : EndsStores s (editPlanDelete p k x s) :=
  .index rfl fun _ _ => .num rfl fun _ => .ite (fun _ => rfl) fun _ => .ite (fun _ => rfl) fun _ =>
    storeDraft_stores ..

theorem editPlanLabel_stores (p : Arg Nat) (l : Arg Text) (x : Bool) : EndsStores s (editPlanLabel p l x s) :=
  .index rfl fun _ _ => .opt rfl fun _ => .ite (fun _ => rfl) fun _ => storeDraft_stores ..

theorem discardDraft_stores (p : Arg Nat) : EndsStores s (discardDraft p s) :=
  .index rfl fun n _ => .ite (fun _ => rfl) fun _ => setPlan_stores s n rfl rfl

theorem setWindow_stores (a : WindowArgs) (lv : Level) : EndsStores s (setWindow a lv s) := by
  refine .num rfl fun n => .need rfl fun k => .need rfl fun m => .optNum rfl fun f => .optNum rfl fun p =>
    .opt rfl fun e => .opt rfl fun o => ?_
  split
  · rfl
  · exact .ite (fun _ => rfl) fun _ => .ite (fun _ => rfl) fun _ => .ite (fun _ => rfl) fun _ =>
      .ite (fun _ => rfl) fun _ => rfl

theorem setWindowEnabled_stores (w : Arg Nat) (e : Arg Bool) (x : Bool) (lv : Level) :
    EndsStores s (setWindowEnabled w e x lv s) := by
  refine .num rfl fun n => .need rfl fun e => .ite (fun _ => rfl) fun _ => .below rfl fun _ => .ite (fun _ => rfl) fun _ => ?_
  split <;> rfl

theorem clearWindow_stores (w : Arg Nat) (lv : Level) : EndsStores s (clearWindow w lv s) :=
  .index rfl fun _ _ => .ite (fun _ => rfl) fun _ => .ite (fun _ => rfl) fun _ => rfl

theorem setDefaultRoute_stores (r : Arg DefaultRoute) : EndsStores s (setDefaultRoute r s) := by
  refine .need rfl fun r => ?_
  cases r with
  | reject => rfl
  | plan p => exact .ite (fun _ => rfl) fun _ => .below rfl fun _ => rfl

theorem setLane_stores (n : Arg Nat) (y : Arg Bool) (r : Arg Nat) (p : Arg Parity) :
    EndsStores s (setLane n y r p s) := by
  refine .num rfl fun n => .opt rfl fun y => .optNum rfl fun r => .opt rfl fun p => .below rfl fun _ => ?_
  split
  · rfl
  · rename_i rt _
    refine .ite (fun _ => rfl) fun _ => ?_
    have hline {p : Parity} : (s.modLine n fun x => { x with rate := rt, parity := p }).stores = s.stores :=
      modLine_stores s n
    dsimp only [Ends]
    split
    · exact (setOnline_stores ..).trans hline
    · exact hline

end requests

/-! ### The requests that change the stores -/

/-- R66: the warning after a change of threshold: the account's mark, and a notice where it is due. -/
theorem warnAfterThreshold_eq (n : Nat) (a : Account) (s : State) : ∃ armed ls,
    (warnAfterThreshold n a s).2 = raiseAll ls (s.setAccount n (some { a with armed := armed })) := by
  unfold warnAfterThreshold
  split
  · exact ⟨true, [], rfl⟩
  · split
    · exact ⟨false, [_], rfl⟩
    · exact ⟨a.armed, [], rfl⟩

namespace StoreMoves
variable {s : State}

theorem suspendSlot (n : Arg Nat) : Ends (StoreMoves s) (suspendSlot n s) := by
  refine .index (refl s) fun n _ => ?_
  split
  · rename_i hr
    exact .ite (fun _ => setSlot (hr ▸ .replace rfl fun _ => nofun)) fun _ => refl s
  · exact refl s

theorem resumeSlot (n : Arg Nat) : Ends (StoreMoves s) (resumeSlot n s) := by
  refine .index (refl s) fun n _ => ?_
  split
  · rename_i hr
    exact .ite (fun _ => setSlot (hr ▸ .replace rfl fun _ => nofun)) fun _ => refl s
  · exact refl s

theorem eraseSlot (n : Arg Nat) : Ends (StoreMoves s) (eraseSlot n s) := by
  refine .index (refl s) fun n _ => ?_
  split
  · exact .ite (fun _ => refl s) fun _ => .ite (fun _ => refl s) fun _ => emptySlot s n
  · exact refl s

theorem setBudget (n : Arg Nat) (b : Arg Budget) : Ends (StoreMoves s) (setBudget n b s) := by
  refine .num (refl s) fun n => .need (refl s) fun v => .ite (fun _ => refl s) fun _ => .below (refl s) fun _ =>
    .ite (fun _ => refl s) fun _ => ?_
  split
  · rename_i r hr
    split
    · exact .ite (fun _ => refl s) fun _ => .ite (fun _ => refl s) fun _ => setSlot (hr ▸ .replace rfl id)
    · exact refl s
  · exact refl s

/-- R42: an assembly begins in an EMPTY slot. -/
theorem assembleBegin (a : AssembleArgs) : Ends (StoreMoves s) (assembleBegin a s) := by
  refine .num (refl s) fun slot => .need (refl s) fun cls => .need (refl s) fun fam => .num (refl s) fun len =>
    .num (refl s) fun parts => .opt (refl s) fun cv => .opt (refl s) fun lab => .optNum (refl s) fun kver =>
    .opt (refl s) fun budget => .ite (fun _ => refl s) fun _ => .ite (fun _ => refl s) fun _ => ?_
  split
  · exact refl s
  · refine .ite (fun _ => refl s) fun _ => .ite (fun _ => refl s) fun _ => .ite (fun _ => refl s) fun hfree => ?_
    have hempty : s.slotAt slot = none := by simpa using hfree
    have hslot (x : Slot) : StoreMoves s (s.setSlot slot x) := setSlot (hempty ▸ .of_empty x)
    exact (hslot (some _)).trans (of_stores rfl)

theorem assembleCancel : Ends (StoreMoves s) (assembleCancel s) := by
  unfold Machine.assembleCancel
  split
  · exact refl s
  · exact cancelAssembly _ s

/-- R57. -/
theorem extendIssue (n l : Arg Nat) : Ends (StoreMoves s) (extendIssue n l s) := by
  refine .num (refl s) fun n => .num (refl s) fun v => .below (refl s) fun _ => .ite (fun _ => refl s) fun hmax => ?_
  split
  · exact refl s
  · rename_i a ha
    refine .ite (fun _ => refl s) fun hlast => setAccount ha (.trans (.single (.extend a v ?_ ?_)) (warnAfterRise_moves _))
    · exact Nat.not_le.1 hlast
    · exact Nat.not_lt.1 hmax

/-- R58. -/
theorem setIssueWarning (n th : Arg Nat) : Ends (StoreMoves s) (setIssueWarning n th s) := by
  refine .num (refl s) fun n => .num (refl s) fun v => .below (refl s) fun _ => ?_
  split
  · exact refl s
  · rename_i a ha
    obtain ⟨armed, ls, hw⟩ := warnAfterThreshold_eq n { a with threshold := min Config.thresholdMax v } s
    dsimp only [Ends]
    rw [hw]
    exact (setAccount ha (.trans (.single (.warnAt a _ (min_le_left ..))) (.single (.arm _ armed)))).trans (raiseAll ls _)

/-- R85: the version that is put into service is valid. -/
theorem installPlan (p : Arg Nat) : Ends (StoreMoves s) (installPlan p s) := by
  refine .index (refl s) fun n _ => ?_
  dsimp only
  split
  · exact refl s
  · rename_i d _
    split
    · exact refl s
    · rename_i hd
      refine .ite (fun _ => refl s) fun _ => setPlan fun v hv => ?_
      rcases hv with hv | hv
      · cases hv
        exact .inr hd
      · simp only [Plan.install] at hv
        split at hv
        · exact .inl (.inl hv)
        · exact .inl (.inr hv)

/-- R86. -/
theorem removePlan (p : Arg Nat) : Ends (StoreMoves s) (removePlan p s) := by
  refine .index (refl s) fun n _ => .ite (fun _ => refl s) fun _ => .ite (fun _ => refl s) fun _ => setPlan fun v hv => .inl ?_
  split at hv
  · exact hv.elim nofun .inr
  · exact hv.elim nofun .inl

theorem clearCounters (n : Arg Nat) : Ends (StoreMoves s) (clearCounters n s) := by
  refine .index (refl s) fun n _ => ?_
  dsimp only [Ends]
  exact modLine fun _ _ => ⟨Nat.zero_le _, Nat.zero_le _⟩

/-- R169: one entry goes. -/
theorem discardRecord (n o : Arg Nat) : Ends (StoreMoves s) (discardRecord n o s) := by
  refine .num (refl s) fun _ => .num (refl s) fun _ => .below (refl s) fun _ => .below (refl s) fun _ => ?_
  split
  · exact refl s
  · exact .ite (fun _ => refl s) fun _ => queue fun h => (List.eraseP_sublist.length_le).trans h

end StoreMoves

/-! ### What a step does to the stores -/

/-- The stores after a step: moved, or an account was opened for a ROOT slot that had none. -/
inductive StoreStep (s t : State) : Prop
  | moves : StoreMoves s t → StoreStep s t
  | opens (u : State) (n : Nat) (a : Account) : StoreMoves s u → u.accounts = s.accounts → u.accountAt n = none →
      (∃ r, u.slotAt n = some r ∧ r.cls = .root ∧ r.state ≠ .assembling) → AccountLawful a →
      StoreMoves (u.setAccount n (some a)) t → StoreStep s t

namespace StoreStep
variable {s t u : State}

theorem refl (s : State) : StoreStep s s := .moves (.refl s)

theorem of_stores (h : t.stores = s.stores) : StoreStep s t := .moves (.of_stores h)

/-- Work before the event's own that leaves the accounts. -/
theorem before (hm : StoreMoves s u) (ha : u.accounts = s.accounts) (h : StoreStep u t) : StoreStep s t := by
  cases h with
  | moves h => exact .moves (hm.trans h)
  | opens v n a hv hva hnone hslot hlaw h => exact .opens v n a (hm.trans hv) (hva.trans ha) hnone hslot hlaw h

/-- Work after it. -/
theorem after (h : StoreStep s t) (hm : StoreMoves t u) : StoreStep s u := by
  cases h with
  | moves h => exact .moves (h.trans hm)
  | opens v n a hv hva hnone hslot hlaw h => exact .opens v n a hv hva hnone hslot hlaw (h.trans hm)

/-- Changes at the ports before the event's own work. -/
theorem before_stores (h : u.stores = s.stores) (hst : StoreStep u t) : StoreStep s t :=
  hst.before (.of_stores h) (congrArg (fun x => x.2.1) h)

/-- R56: OPEN-ISSUE. -/
theorem openIssue (n : Arg Nat) (p : Arg (BitVec 24)) (f l st th : Arg Nat) (s : State) :
    Ends (StoreStep s) (openIssue n p f l st th s) := by
  refine .num (refl s) fun n => .need (refl s) fun p => .num (refl s) fun f => .num (refl s) fun l =>
    .optNum (refl s) fun st => .optNum (refl s) fun th => .below (refl s) fun _ => .ite (fun _ => refl s) fun hrange => ?_
  split
  · exact refl s
  · rename_i r hr
    refine .ite (fun _ => refl s) fun hslot => .ite (fun _ => refl s) fun _ => ?_
    simp only [Bool.or_eq_true, decide_eq_true_eq, not_or, Nat.not_lt] at hrange
    obtain ⟨⟨⟨⟨-, hl⟩, hfl⟩, hst0⟩, hst16⟩ := hrange
    simp only [Bool.or_eq_true, decide_eq_true_eq, not_or, ne_eq, not_not, Bool.not_eq_true,
      Option.isSome_eq_false_iff, Option.isNone_iff_eq_none] at hslot
    obtain ⟨⟨hst, hcls⟩, hnone⟩ := hslot
    obtain ⟨armed, ls, hw⟩ := warnAfterThreshold_eq n (Account.opened p f l (st.getD 1)
      (min Config.thresholdMax (th.getD Config.thresholdDefault))) s
    refine .opens s n _ (.refl s) rfl hnone ⟨r, hr, hcls, hst⟩ ?_ (hw ▸ StoreMoves.raiseAll ls _)
    exact ⟨Nat.one_le_iff_ne_zero.2 hst0, hst16, le_rfl, hfl.trans (Nat.le_add_right ..), ⟨0, Nat.sub_self f⟩, hl,
      min_le_left .., Nat.zero_le _, .nil⟩

/-- Table 10-1, steps 4, 7 and 8. -/
theorem request {h : State → Answer × State} (hh : ∀ u, Ends (StoreStep u) (h u)) (lvl : Level) (tag : Text) (b : Bool)
    (s : State) : StoreStep s (request lvl tag b h s) := by
  have hreply {u : State} {l : Line} : StoreMoves u (setReply l u) := .of_stores (setReply_stores u l)
  unfold Machine.request
  split
  · exact .moves hreply
  · split
    · exact .moves hreply
    · cases lvl with
      | operator => exact (hh s).after hreply
      | custodian => exact (before_stores (restartDual_stores s) (hh _)).after hreply

/-- R175: every request. -/
theorem serveRuns (i : Instr) (s : State) : StoreStep s (serveRuns i s) := by
  have moves {lvl tag b f} (hf : ∀ u, Ends (StoreMoves u) (f u)) : StoreStep s (Machine.request lvl tag b f s) :=
    request (h := f) (fun u => (hf u).imp fun _ => .moves) lvl tag b s
  have stores {lvl tag b f} (hf : ∀ u, EndsStores u (f u)) : StoreStep s (Machine.request lvl tag b f s) :=
    moves fun u => (hf u).imp fun _ => .of_stores
  have reads {lvl tag b f} (hf : ∀ u, Ends (· = u) (f u)) : StoreStep s (Machine.request lvl tag b f s) :=
    stores fun u => (hf u).imp fun _ => congrArg State.stores
  cases i
  case openIssue t n p f l st th => exact request (fun u => openIssue n p f l st th u) ..
  case suspendSlot t n => exact moves fun _ => .suspendSlot n
  case resumeSlot t n => exact moves fun _ => .resumeSlot n
  case eraseSlot t n => exact moves fun _ => .eraseSlot n
  case setBudget t n b => exact moves fun _ => .setBudget n b
  case assembleBegin t a => exact moves fun _ => .assembleBegin a
  case assembleCancel t => exact moves fun _ => .assembleCancel
  case extendIssue t n l => exact moves fun _ => .extendIssue n l
  case setIssueWarning t n th => exact moves fun _ => .setIssueWarning n th
  case installPlan t p => exact moves fun _ => .installPlan p
  case removePlan t p => exact moves fun _ => .removePlan p
  case queueRun t n p c g => exact moves fun u => .queueRun n p c g u
  case abortLane t n f => exact moves fun u => .abortLane n f u
  case clearCounters t n => exact moves fun _ => .clearCounters n
  case discardRecord t n o => exact moves fun _ => .discardRecord n o
  case setScrub t v => exact stores fun u => setScrub_stores u v
  case restart t => exact stores restart_stores
  case enrolCustodian t n g l => exact stores fun u => enrolCustodian_stores u n g l
  case removeCustodian t n => exact stores fun u => removeCustodian_stores u n
  case unlockCustodian t n => exact stores fun u => unlockCustodian_stores u n
  case setDualWindow t v => exact stores fun u => setDualWindow_stores u v
  case setParityPolicy t p => exact stores fun u => setParityPolicy_stores u p
  case acknowledgeTamper t => exact stores acknowledgeTamper_stores
  case editPlanSet t p k kd a x => exact stores fun u => editPlanStep_stores u false p k kd a x
  case editPlanInsert t p k kd a x => exact stores fun u => editPlanStep_stores u true p k kd a x
  case editPlanDelete t p k x => exact stores fun u => editPlanDelete_stores u p k x
  case editPlanLabel t p l x => exact stores fun u => editPlanLabel_stores u p l x
  case discardDraft t p => exact stores fun u => discardDraft_stores u p
  case setWindow t a lv => exact stores fun u => setWindow_stores u a lv
  case setWindowEnabled t w e x lv => exact stores fun u => setWindowEnabled_stores u w e x lv
  case clearWindow t w lv => exact stores fun u => clearWindow_stores u w lv
  case setDefaultRoute t r => exact stores fun u => setDefaultRoute_stores u r
  case setLane t n o r p => exact stores fun u => setLane_stores u n o r p
  case status t => exact reads (f := Machine.status) fun _ => rfl
  case listSlots t => exact reads (f := Machine.listSlots) fun _ => rfl
  case readSlot t n => exact reads fun u => readSlot_reads u n
  case readIssue t n => exact reads fun u => readIssue_reads u n
  case readPlan t n => exact reads fun u => readPlan_reads u n
  case readPlanStep t p w k => exact reads fun u => readPlanStep_reads u p w k
  case readWindow t w lv => exact reads fun u => readWindow_reads u w lv
  case readWindowSummary t lv => exact reads (f := Machine.readWindowSummary lv) fun _ => rfl
  case readLane t n => exact reads fun u => readLane_reads u n
  case readRecord t => exact reads readRecord_reads
  case readRecordEntry t n o x => exact reads (f := Machine.readRecordEntry n o x) fun u => readEntry_reads u n o x _
  case readRecordDelivery t n o k => exact reads fun u => readRecordDelivery_reads u n o k
  case readRecordVoided t n o x => exact reads (f := Machine.readRecordVoided n o x) fun u => readEntry_reads u n o x _
  case readRecordNotes t n o x => exact reads (f := Machine.readRecordNotes n o x) fun u => readEntry_reads u n o x _
  all_goals exact refl s

/-! ### The two ports -/

theorem handleLine (l : LinkLine) (s : State) : StoreStep s (handleLine l s) := by
  cases l with
  | request i => exact serveRuns i s
  | refused w =>
    cases w with
    | empty => exact refl s
    | _ => exact of_stores rfl

theorem lineReady (l : LinkLine) (s : State) : StoreStep s (lineReady l s) := by
  unfold Machine.lineReady
  split
  · exact of_stores rfl
  · exact before_stores (setRx_stores ..) (handleLine l _)

theorem lineEnds (l : LinkLine) (s : State) : StoreStep s (lineEnds l s) := by
  unfold Machine.lineEnds
  split
  · exact refl s
  · split
    · exact of_stores rfl
    · exact lineReady l s
  · exact lineReady _ s
  · exact lineReady _ s
  · exact of_stores rfl

theorem linkCharacter (c : Byte) (s : State) : StoreStep s (linkCharacter c s) := by
  unfold Machine.linkCharacter
  split
  · exact refl s
  · split
    · exact lineEnds _ s
    · unfold collectLink
      dsimp only
      split <;> exact of_stores rfl
  · split
    · exact lineEnds _ s
    · exact refl s
  · split
    · exact lineEnds _ s
    · exact refl s
  · exact of_stores rfl

/-- R178: the transmitter takes a notice before a held line is handled. -/
theorem linkSent (s : State) : StoreStep s (linkSent s) := by
  have hpump : StoreMoves s (pump { s with link := { s.link with sending := none } }) := by
    refine StoreMoves.trans ?_ (.pump _)
    exact .of_stores rfl
  have hheld : StoreStep s (handleHeld (pump { s with link := { s.link with sending := none } })) := by
    unfold handleHeld
    split
    · refine StoreStep.before hpump rfl (before_stores ?_ (handleLine _ _))
      unfold LinkPort.released
      split <;> rfl
    · exact .moves hpump
  unfold Machine.linkSent
  split
  · exact refl s
  · dsimp only
    split
    · exact hheld
    · exact .moves hpump

end StoreStep

namespace StoreMoves

theorem handlePanel (l : PanelLine) (s : State) : StoreMoves s (handlePanel l s) := by
  unfold Machine.handlePanel panelServe
  refine (panelAnswer l s).trans ?_
  dsimp only
  split
  · exact of_stores (restartDual_stores (Machine.panelAnswer l s).2)
  · exact of_stores rfl

theorem panelLineEnds (l : PanelLine) (s : State) : StoreMoves s (panelLineEnds l s) := by
  unfold Machine.panelLineEnds
  split
  · exact refl s
  · unfold panelEnds
    dsimp only
    split
    · exact of_stores rfl
    · split
      · exact of_stores rfl
      · refine StoreMoves.trans ?_ (handlePanel _ _)
        exact of_stores rfl

theorem panelCharacter (c : Byte) (s : State) : StoreMoves s (panelCharacter c s) := by
  unfold Machine.panelCharacter
  split
  · exact refl s
  · split
    · exact panelLineEnds _ s
    · exact of_stores rfl

theorem panelReplySent (s : State) : StoreMoves s (panelReplySent s) := by
  unfold Machine.panelReplySent
  split
  · split
    · unfold panelHeld
      split
      · exact of_stores rfl
      · refine StoreMoves.trans ?_ (handlePanel _ _)
        exact of_stores rfl
    · exact refl s
  · exact refl s

theorem panelMessageSent (s : State) : StoreMoves s (panelMessageSent s) := by
  unfold Machine.panelMessageSent
  split
  · split
    · exact refl s
    · exact of_stores rfl
  · exact refl s

end StoreMoves

namespace StoreStep
variable {s t u : State}

/-- A command's end: the transmitter takes its next line. -/
theorem finish (h : StoreStep s u) (hf : finish u = .next t) : StoreStep s t := by
  cases hf
  exact h.after (.pump u)

theorem exec (c : Instr) (h : exec c s = .next t) : StoreStep s t := by
  cases hr : requestOf c with
  | some q => exact finish (lineEnds (.request c) s) ((exec_request hr s).symm.trans h)
  | none =>
    cases c <;> simp only [requestOf, reduceCtorEq] at hr
    case linkLineRefused w => exact finish (lineEnds _ s) h
    case linkTransmitEnd => exact finish (linkSent s) h
    case linkCharacterReceived c => exact finish (linkCharacter c s) h
    case panelReplySent => exact finish (.moves (.panelReplySent s)) h
    case panelMessageSent => exact finish (.moves (.panelMessageSent s)) h
    case panelCharacterReceived c => exact finish (.moves (.panelCharacter c s)) h
    case dualWindowExpiry => exact finish (.moves (.dualExpiry s)) h
    case scrubTimerExpiry => exact finish (.moves (.scrubExpiry s)) h
    case cipherOperationComplete b => exact finish (.moves (.cipherComplete b s)) h
    case transmitStart n => exact finish (.moves (.beginWaiting n s)) h
    case transmitEnd n => exact finish (.moves (.transmitEnd n s)) h
    case benchFrameReceived => exact finish (.moves (.benchFrame _ _ _ _ _ s)) h
    case bodyLengthOverlong n => exact finish (.moves (.overlongHeader n s)) h
    case benchCharacterReceived => exact finish (.moves (.benchCharacter _ _ _ _ s)) h
    case gapTimerExpiry n => exact finish (.moves (.gapExpiry n s)) h
    case stepTimerExpiry n => exact finish (.moves (.timerExpiry n s)) h
    case cradleContactChange n b => exact finish (of_stores (contactChange_stores s n b)) h
    case settleTimerExpiry n => exact finish (.moves (.settleExpiry n s)) h
    case reservationRetry n => exact finish (.moves (.retryReservation n s)) h
    case tamperEvent => exact finish (.moves (.tamperEvent s)) h
    case tamperPowerOff => exact finish (.moves (.tamperPowerOff s)) h
    case powerOn => exact finish (.moves (.powerOn s)) h
    case startUpAfterRestart => exact finish (.moves (.startUpAfterRestart s)) h
    case powerLoss => exact finish (.moves (.powerLoss s)) h
    case selfTestComplete => exact finish (.moves (.selfTestComplete _ _ _ _ s)) h
    -- the commands that end a line at the panel
    all_goals exact finish (.moves (.panelLineEnds _ s)) h

/-- What a step can do to the stores. -/
theorem of_step (h : step s = .next t) : StoreStep s t := by
  unfold step at h
  split at h
  · cases h
    exact refl s
  · rename_i rest _
    exact before_stores (u := { s with pending := rest }) rfl (exec _ h)

/-! ### The laws of the stores -/

/-- An account that is opened enters no bound. -/
theorem boundsKept (h : StoreStep s t) : BoundsKept s t := by
  cases h with
  | moves h => exact h.toBoundsKept
  | opens u n a hu hua hnone hslot hlaw h =>
    have hopen : BoundsKept u (u.setAccount n (some a)) := { BoundsKept.refl u with }
    exact (hu.toBoundsKept.trans hopen).trans h.toBoundsKept

end StoreStep

/-- R53, R54, R68: the laws of the accounts. -/
def AccountsLaw (s : State) : Prop := AccountsOwned s ∧ ∀ n a, s.accountAt n = some a → AccountLawful a

section
variable {s t u : State}

/-- A moved account is lawful, and its slot's key is still in place. -/
theorem StoreMoves.accountsLaw (h : StoreMoves s t) (hv : VersionsValid s) (hs : AccountsLaw s) : AccountsLaw t := by
  refine ⟨fun n hn hb => ?_, fun n b hb => ?_⟩
  · obtain ⟨b, hb⟩ := Option.isSome_iff_exists.1 hb
    obtain ⟨a, ha, -, hstands⟩ := h.accounts hv n b hb
    obtain ⟨r, hr, hroot, hheld⟩ := hs.1 n hn (by simp [ha])
    obtain ⟨r', hr', hcls, hheld'⟩ := hstands r hr hheld
    exact ⟨r', hr', hcls.trans hroot, hheld'⟩
  · obtain ⟨a, ha, hmoves, -⟩ := h.accounts hv n b hb
    exact accountMoves_lawful hmoves (hs.2 n a ha)

/-- R56: a lawful account opened for a ROOT slot that holds a key. -/
theorem AccountsLaw.opened {n : Nat} {a : Account} (hu : AccountsLaw u)
    (hslot : ∃ r, u.slotAt n = some r ∧ r.cls = .root ∧ r.state ≠ .assembling) (ha : AccountLawful a) :
    AccountsLaw (u.setAccount n (some a)) := by
  refine ⟨fun m hm hb => ?_, fun m b hb => ?_⟩ <;> rw [accountAt_setAccount] at hb <;> split at hb
  · rename_i hnm
    exact hnm.1 ▸ hslot
  · exact hu.1 m hm hb
  · cases hb
    exact ha
  · exact hu.2 m b hb

theorem StoreStep.accountsLaw (h : StoreStep s t) (hv : VersionsValid s) (hs : AccountsLaw s) : AccountsLaw t := by
  cases h with
  | moves h => exact h.accountsLaw hv hs
  | opens u n a hu hua hnone hslot hlaw h => exact h.accountsLaw (hu.valid hv) ((hu.accountsLaw hv hs).opened hslot hlaw)

/-- R55: N of an account that stands before and after a step. The account that the step opens is not such a one. -/
theorem StoreStep.next_le (h : StoreStep s t) (hv : VersionsValid s) {n : Nat} {a b : Account}
    (ha : s.accountAt n = some a) (hb : t.accountAt n = some b) : a.next ≤ b.next := by
  cases h with
  | moves h =>
    obtain ⟨a', ha', hmoves, -⟩ := h.accounts hv n b hb
    obtain rfl : a = a' := Option.some.inj (ha.symm.trans ha')
    exact accountMoves_next_le hmoves
  | opens u k o hu hua hnone hslot hlaw h =>
    have hua : u.accountAt n = some a := by rwa [State.accountAt, hua]
    obtain ⟨a', ha', hmoves, -⟩ := h.accounts (hu.valid hv) n b hb
    have hnk : ¬ (k = n ∧ k < 64) := fun hk => by simp [← hk.1, hnone] at hua
    rw [accountAt_setAccount, if_neg hnk] at ha'
    obtain rfl : a = a' := Option.some.inj (hua.symm.trans ha')
    exact accountMoves_next_le hmoves

end

/-- Settles O59: every event moves the stores by bounded changes (`StoreStep.of_step`), and each law is kept by those. -/
theorem storeLawsKept : Obligations.StoreLawsKept := by
  refine ⟨fun s t hr hn hq hc h => ?_, fun s t hv h => (StoreStep.of_step h).boundsKept.valid hv,
    fun s t hv hown hlaw h => ?_⟩
  · have hb := (StoreStep.of_step h).boundsKept
    exact ⟨hb.records hr, hb.notices hn, hb.queues hq, hb.counters hc⟩
  · have hstep := StoreStep.of_step h
    obtain ⟨hown', hlaw'⟩ := hstep.accountsLaw hv ⟨hown, hlaw⟩
    exact ⟨hown', hlaw', fun n a b => hstep.next_le hv⟩

end Sys2Proof.Machine

namespace Sys2Proof.Machine

/-! ## Install validation (R84): O33 -/

/-- The number of LOAD steps of a draft. -/
def loadCount (l : List Step) : Nat := (l.filter fun x => x.kind.isLoad).length

/-- Table 4-4, read as what each check makes true of the step `x` after the steps `before`. -/
structure PassesAfter (before : List Step) (x : Step) : Prop where
  operands : x.operandsOk = true
  room : x.kind.isLoad = true → loadCount before < 10
  position : x.kind.isLoad = true → ∀ y ∈ before, y.kind.isLoad = true → y.pos ≠ x.pos
  root : x.kind = .loadDerived → ∀ y ∈ before, y.kind = .loadDerived → y.slot ≠ x.slot
  verify : x.kind = .verify → ∃ y ∈ before, y.kind.isLoad = true ∧ y.pos = x.pos
  routeOnce : x.kind = .route → ∀ y ∈ before, y.kind ≠ .route
  identify : x.kind = .route → ∃ y ∈ before, y.kind = .identify
  unmixed : (∃ y ∈ before ++ [x], y.kind = .route) →
    ∀ y ∈ before ++ [x], y.kind.isLoad = false ∧ y.kind ≠ .verify

theorem routes_iff {l : List Step} : routes l = true ↔ ∃ y ∈ l, y.kind = .route := by simp [routes]

/-- Table 4-4: each field is what the failing condition of one check denies. -/
theorem passesAfter_of_stepFault {before : List Step} {x : Step} (h : stepFault before x = none) :
    PassesAfter before x := by
  obtain ⟨hoperands, hroot⟩ := stepFault_none h
  unfold stepFault at h
  dsimp only at h
  split_ifs at h with _ hcount hpos _ hverify htwice horder hmixed
  exact
    { operands := hoperands
      root := hroot
      room := fun hk => by
        rwa [hk, Bool.true_and, decide_eq_true_eq, not_le] at hcount
      position := fun hk => by simpa [hk] using hpos
      verify := fun hk => by simpa [hk, and_assoc] using hverify
      routeOnce := fun hk => by simpa [hk, routes] using htwice
      identify := fun hk => by simpa [hk] using horder
      unmixed := fun hr => by
        rw [Bool.and_eq_true, not_and, routes_iff] at hmixed
        simpa only [Bool.not_eq_true, List.any_eq_false, Bool.or_eq_false_iff, decide_eq_false_iff_not] using hmixed hr }

theorem loadCount_concat (l : List Step) (x : Step) :
    loadCount (l ++ [x]) = loadCount l + if x.kind.isLoad then 1 else 0 := by
  cases h : x.kind.isLoad <;> simp [loadCount, h]

/-- R84: what holds before the walk, and that each step which passes keeps, holds of the whole draft. -/
theorem walkDraft_induction {P : List Step → Prop} (hstep : ∀ b x, P b → PassesAfter b x → P (b ++ [x]))
    {before l : List Step} (hb : P before) (h : walkDraft before l = none) : P (before ++ l) := by
  induction l generalizing before with
  | nil => simpa using hb
  | cons x l ih =>
    unfold walkDraft at h
    split at h
    · cases h
    · rename_i hx
      rw [List.append_cons]
      exact ih (hstep before x hb (passesAfter_of_stepFault hx)) h

theorem draftFault_none {l : List Step} (h : draftFault l = none) : l ≠ [] ∧ walkDraft [] l = none := by
  unfold draftFault at h
  split at h
  · cases h
  · rename_i hne
    exact ⟨by simpa using hne, h⟩

/-- What holds of a draft through the whole walk. -/
theorem valid_of_steps {P : List Step → Prop} {l : List Step} (h : draftFault l = none) (hnil : P [])
    (hstep : ∀ b x, P b → PassesAfter b x → P (b ++ [x])) : P l :=
  walkDraft_induction hstep hnil (draftFault_none h).2

theorem valid_loadCount {l : List Step} (h : draftFault l = none) : loadCount l ≤ 10 :=
  valid_of_steps (P := fun b => loadCount b ≤ 10) h (Nat.zero_le 10) fun b x hb hx => by
    rw [loadCount_concat]
    split
    · exact hx.room ‹_›
    · exact hb

/-- Every step of a valid draft passes the checks after the steps before it. -/
theorem valid_passes {l : List Step} (h : draftFault l = none) :
    ∀ (i : Nat) (x : Step), l[i]? = some x → PassesAfter (l.take i) x := by
  refine valid_of_steps (P := fun b => ∀ (i : Nat) (x : Step), b[i]? = some x → PassesAfter (b.take i) x) h (by simp)
    fun b y hb hy i x hx => ?_
  have hi := (List.getElem?_eq_some_iff.1 hx).1
  rw [List.length_append, List.length_singleton, Nat.lt_succ_iff_lt_or_eq] at hi
  rcases hi with hi | rfl
  · rw [List.take_append_of_le_length hi.le]
    exact hb i x (by rwa [List.getElem?_append_left hi] at hx)
  · rw [List.getElem?_concat_length, Option.some.injEq] at hx
    rwa [List.take_left' rfl, ← hx]

theorem mem_take_iff {l : List Step} {i : Nat} {y : Step} : y ∈ l.take i ↔ ∃ j < i, l[j]? = some y := by
  simp only [List.mem_take_iff_getElem, List.getElem?_eq_some_iff, lt_min_iff]
  exact ⟨fun ⟨j, hj, hy⟩ => ⟨j, hj.1, hj.2, hy⟩, fun ⟨j, hi, hl, hy⟩ => ⟨j, ⟨hi, hl⟩, hy⟩⟩

theorem presentBelow_iff {b : Nat} {o : Option Nat} : presentBelow b o = true ↔ ∃ v, o = some v ∧ v < b := by
  cases o <;> simp [presentBelow]

theorem isLoad_iff {k : StepKind} : k.isLoad = true ↔ k = .loadDirect ∨ k = .loadDerived := by
  cases k <;> simp [StepKind.isLoad]

/-- Table 4-4, check 1, of each kind that has operands to pass. -/
theorem PassesAfter.duration {b : List Step} {x : Step} (h : PassesAfter b x) (hk : x.kind = .pause) :
    x.duration.isSome := by simpa [Step.operandsOk, hk] using h.operands

theorem PassesAfter.verified {b : List Step} {x : Step} (h : PassesAfter b x) (hk : x.kind = .verify) :
    ∃ p, x.pos = some p ∧ p < 10 := by simpa [Step.operandsOk, hk, presentBelow_iff] using h.operands

theorem PassesAfter.loaded {b : List Step} {x : Step} (h : PassesAfter b x) (hk : x.kind.isLoad = true) :
    ∃ a b p, x.slot = some a ∧ a < 64 ∧ x.tslot = some b ∧ b < 64 ∧ x.pos = some p ∧ p < 10 := by
  have hall : (presentBelow 64 x.slot && presentBelow 64 x.tslot && presentBelow 10 x.pos) = true := by
    rcases isLoad_iff.1 hk with hx | hx <;> simpa only [Step.operandsOk, hx] using h.operands
  simp only [Bool.and_eq_true, presentBelow_iff] at hall
  obtain ⟨⟨⟨a, ha⟩, c, hc⟩, p, hp⟩ := hall
  exact ⟨a, c, p, ha.1, ha.2, hc.1, hc.2, hp⟩

/-- R84: a valid draft with a ROUTE step at `i` holds no LOAD, no VERIFY and no other ROUTE, before it or after it: of two
steps, the later one has passed the checks beside the earlier. -/
theorem valid_route {l : List Step} (h : draftFault l = none) {i j : Nat} {x y : Step} (hx : l[i]? = some x)
    (hy : l[j]? = some y) (hk : x.kind = .route) :
    y.kind.isLoad = false ∧ y.kind ≠ .verify ∧ (y.kind = .route → j = i) := by
  have hpx := valid_passes h i x hx
  have hpy := valid_passes h j y hy
  rcases Nat.lt_trichotomy j i with hji | rfl | hij
  · have hmem : y ∈ l.take i := mem_take_iff.2 ⟨j, hji, hy⟩
    obtain ⟨hload, hverify⟩ := hpx.unmixed ⟨x, by simp, hk⟩ y (by simp [hmem])
    exact ⟨hload, hverify, fun hr => absurd hr (hpx.routeOnce hk y hmem)⟩
  · obtain rfl : x = y := Option.some.inj (hx.symm.trans hy)
    obtain ⟨hload, hverify⟩ := hpx.unmixed ⟨x, by simp, hk⟩ x (by simp)
    exact ⟨hload, hverify, fun _ => rfl⟩
  · have hmem : x ∈ l.take j := mem_take_iff.2 ⟨i, hij, hx⟩
    obtain ⟨hload, hverify⟩ := hpy.unmixed ⟨x, by simp [hmem], hk⟩ y (by simp)
    exact ⟨hload, hverify, fun hr => absurd hk (hpy.routeOnce hr x hmem)⟩

/-- Settles O33: the LOAD count by the walk, and the rest from the checks that each step passes after those before it. -/
theorem validDraftLaw : Obligations.ValidDraftLaw := by
  intro l h
  refine ⟨(draftFault_none h).1, valid_loadCount h, fun i x hx => ?_⟩
  have hp := valid_passes h i x hx
  refine ⟨hp.duration, hp.verified, hp.loaded, fun hk => ?_, fun hk => ⟨?_, fun j y hy => valid_route h hx hy hk⟩,
    fun j y hj hy => ?_⟩
  · obtain ⟨y, hy, hload, hpos⟩ := hp.verify hk
    obtain ⟨j, hj, hjy⟩ := mem_take_iff.1 hy
    exact ⟨j, y, hj, hjy, hload, hpos⟩
  · obtain ⟨y, hy, hident⟩ := hp.identify hk
    obtain ⟨j, hj, hjy⟩ := mem_take_iff.1 hy
    exact ⟨j, y, hj, hjy, hident⟩
  · have hmem : y ∈ l.take i := mem_take_iff.2 ⟨j, hj, hy⟩
    exact ⟨fun hk hky => hp.position hk y hmem hky, fun hk hky => hp.root hk y hmem hky⟩

end Sys2Proof.Machine

namespace Sys2Proof.Machine

/-! ## The requests of the Plan Store (R80 to R86): O29, O30, O31, O32 -/

/-- R80: an inserted step goes before the step at its place, or at the end. -/
theorem placeStep_insert {i : Nat} {st : Step} {l : List Step} (h : i ≤ l.length) :
    placeStep true i st l = l.insertIdx i st := by
  rw [placeStep, if_pos rfl]
  induction i generalizing l with
  | zero => simp
  | succ i ih =>
    cases l with
    | nil => simp at h
    | cons x l => simp [ih (Nat.le_of_succ_le_succ h)]

/-- R81, check 3. -/
theorem stepPlaced_set {i : Nat} {l : List Step} : stepPlaced false i l = true ↔ i < l.length := by simp [stepPlaced]

theorem stepPlaced_insert {i : Nat} {l : List Step} :
    stepPlaced true i l = true ↔ i ≤ l.length ∧ l.length < 24 := by
  rw [stepPlaced, if_pos rfl, Bool.and_eq_true, decide_eq_true_eq, decide_eq_true_eq, Config.stepsMax]

/-! ### EDIT-PLAN and DISCARD-DRAFT -/

section
variable {s : State} {p i : Nat} {k : StepKind} {ops : StepArgs} {label : Text} {d : Draft}

/-- R80: a stored draft, with the number of its steps. -/
theorem storeDraft_eq {m : Nat} (more : List Item) (h : d.steps.length = m) : storeDraft p d more s =
    (.ok (.field "PLAN" (.num p) :: .field "STEPS" (.num m) :: more),
      s.setPlan p { s.planAt p with draft := some d }) := by
  subst h
  rfl

/-- R81: operands that do not fit the kind. -/
theorem editPlanStep_unfit (b : Bool) (hp : p < 16) (hi : i < 10 ^ 7) (h : ops.fit k = false) :
    editPlanStep b (.val p) (.val i) (.val k) ops false s = refuse .badSyntax s := by
  rw [editPlanStep, index_val (by omega) hp, num_val hi, Arg.need]
  simp [h]

/-- R80, R81: SET and INSERT of operands that fit, by the place. -/
theorem editPlanStep_fit {b : Bool} (hp : p < 16) (hi : i < 10 ^ 7) (h : ops.fit k = true)
    (hd : (s.planAt p).workDraft = d) : editPlanStep b (.val p) (.val i) (.val k) ops false s =
      if stepPlaced b i d.steps then
        storeDraft p { d with steps := placeStep b i (ops.toStep k) d.steps }
          (.field "STEP" (.num i) :: .field "KIND" (.word k.word) :: ops.clampedItems (ops.toStep k)) s
      else refuse .range s := by
  subst hd
  rw [editPlanStep, index_val (by omega) hp, num_val hi, Arg.need]
  cases hb : stepPlaced b i (s.planAt p).workDraft.steps <;> simp [h, hb]

/-- R80, R81: DELETE, by the place. -/
theorem editPlanDelete_val (hp : p < 16) (hi : i < 10 ^ 7) (hd : (s.planAt p).workDraft = d) :
    editPlanDelete (.val p) (.val i) false s =
      if d.steps.length ≤ i then refuse .range s
      else storeDraft p { d with steps := d.steps.eraseIdx i } [] s := by
  subst hd
  rw [editPlanDelete, index_val (by omega) hp, num_val hi, if_neg (by simp)]

/-- R80: LABEL, of a label that fits. -/
theorem editPlanLabel_val (hp : p < 16) (hlen : label.length ≤ 16) (hall : label.all isPrintable = true)
    (hd : (s.planAt p).workDraft = d) :
    editPlanLabel (.val p) (.val label) false s = storeDraft p { d with label := label } [] s := by
  subst hd
  have hfit : fitsText 16 label = true := by simp only [fitsText, hlen, hall, decide_true, Bool.and_self]
  rw [editPlanLabel, index_val (by omega) hp, Arg.opt]
  simp [hfit]

theorem discardDraft_val (hp : p < 16) : discardDraft (.val p) s =
    if (s.planAt p).draft.isNone then refuse .wrongState s
    else (.ok [fPlan p, .field "DRAFT" (.word "NONE")], s.setPlan p { s.planAt p with draft := none }) :=
  index_val (by omega) hp

end

/-- Table 4-2: the clamps, read as comparisons. -/
theorem clamp_eq {lo hi v : Nat} (h : lo ≤ hi) : clamp lo hi v = if v < lo then lo else if hi < v then hi else v := by
  unfold clamp
  split_ifs <;> omega

theorem clampLimit_eq (v : Nat) :
    clampLimit v = if v = 0 then 0 else if v < 1000 then 1000 else if 3600000 < v then 3600000 else v := by
  rw [clampLimit, clamp_eq (by omega)]

/-- Table 4-2: the step stored, its clamps written out. -/
theorem toStep_eq (k : StepKind) (ops : StepArgs) : ops.toStep k =
    { kind := k, slot := ops.slot.toOption, tslot := ops.tslot.toOption, pos := ops.pos.toOption,
      text := ops.text.toOption,
      duration := ops.duration.toOption.map fun v => if v < 10 then 10 else if 60000 < v then 60000 else v,
      limit := ops.limit.toOption.map fun v =>
        if v = 0 then 0 else if v < 1000 then 1000 else if 3600000 < v then 3600000 else v,
      timeout := ops.timeout.toOption.map fun v => if v < 100 then 100 else if 60000 < v then 60000 else v,
      cont := ops.cont.toOption } := by
  have hduration : clamp 10 60000 = _ := funext fun _ => clamp_eq (by omega)
  have htimeout : clamp 100 60000 = _ := funext fun _ => clamp_eq (by omega)
  have hlimit : clampLimit = _ := funext clampLimit_eq
  rw [StepArgs.toStep, hduration, htimeout, hlimit]

/-! ### READ-PLAN -/

section
variable {s : State} {p i : Nat} {w : Which} {d : Draft}

/-- An optional number of at most `d` digits, given. -/
theorem optNum_val {d n : Nat} {q : Option Nat → Answer × State} (h : n < 10 ^ d) :
    (Arg.val n).optNum d s q = q (some n) := if_pos h

theorem readPlanStep_none (hp : p < 16) (hi : i < 10 ^ 8) (hv : (s.planAt p).which w = none) :
    readPlanStep (.val p) (.val w) (.val i) s = refuse .wrongState s := by
  rw [readPlanStep, num_val (by omega), Arg.need, optNum_val hi, below_lt hp]
  simp only [hv]

theorem readPlanStep_whole (hp : p < 16) (hv : (s.planAt p).which w = some d) :
    readPlanStep (.val p) (.val w) .absent s = (.ok [fPlan p, .field "WHICH" (.word w.word),
      .field "LABEL" (.label d.label), fSteps d.steps], s) := by
  rw [readPlanStep, num_val (by omega), Arg.need, Arg.optNum, below_lt hp]
  simp [hv]

theorem readPlanStep_past (hp : p < 16) (hi : i < 10 ^ 8) (hv : (s.planAt p).which w = some d)
    (hlen : d.steps.length ≤ i) : readPlanStep (.val p) (.val w) (.val i) s = refuse .range s := by
  rw [readPlanStep, num_val (by omega), Arg.need, optNum_val hi, below_lt hp]
  simp only [hv, List.getElem?_eq_none hlen]

theorem readPlanStep_step {st : Step} (hp : p < 16) (hi : i < 10 ^ 8) (hv : (s.planAt p).which w = some d)
    (hst : d.steps[i]? = some st) : readPlanStep (.val p) (.val w) (.val i) s =
      (.ok ([fPlan p, .field "WHICH" (.word w.word), .field "STEP" (.num i), .field "KIND" (.word st.kind.word)] ++
        st.items), s) := by
  rw [readPlanStep, num_val (by omega), Arg.need, optNum_val hi, below_lt hp]
  simp [hv, hst]

end

/-- Settles O29: the answers of SET and INSERT by whether the operands fit and the place is in the draft, those of DELETE
and LABEL, and the clamps. -/
theorem editPlan : Obligations.EditPlan := by
  refine ⟨fun s tag p i k ops label d hs hp hi hd => ?_, toStep_eq⟩
  have hwork : ((heard s).planAt p).workDraft = d := hd.symm
  have setErr {c} := operator_err (c := c) hs (i := .editPlanSet tag (.val p) (.val i) (.val k) ops false)
    (editPlanStep false (.val p) (.val i) (.val k) ops false) rfl
  have setOk {fields t} := operator_ok (fields := fields) (t := t) hs
    (i := .editPlanSet tag (.val p) (.val i) (.val k) ops false)
    (editPlanStep false (.val p) (.val i) (.val k) ops false) rfl
  have insertErr {c} := operator_err (c := c) hs (i := .editPlanInsert tag (.val p) (.val i) (.val k) ops false)
    (editPlanStep true (.val p) (.val i) (.val k) ops false) rfl
  have insertOk {fields t} := operator_ok (fields := fields) (t := t) hs
    (i := .editPlanInsert tag (.val p) (.val i) (.val k) ops false)
    (editPlanStep true (.val p) (.val i) (.val k) ops false) rfl
  refine ⟨fun hfit => ⟨setErr (editPlanStep_unfit false hp hi hfit), insertErr (editPlanStep_unfit true hp hi hfit)⟩,
    fun hfit => ⟨fun hlt => setOk ?_, fun hge => setErr ?_, fun hle hroom => insertOk ?_, fun hout => insertErr ?_⟩,
    fun hlt => ?_, fun hge => ?_, fun hlen hall => ?_⟩
  · rw [editPlanStep_fit hp hi hfit hwork, if_pos (stepPlaced_set.2 hlt)]
    exact storeDraft_eq _ List.length_set
  · rw [editPlanStep_fit hp hi hfit hwork, if_neg (by rw [stepPlaced_set]; omega), refuse]
  · rw [editPlanStep_fit hp hi hfit hwork, if_pos (stepPlaced_insert.2 ⟨hle, hroom⟩), placeStep_insert hle]
    exact storeDraft_eq _ (List.length_insertIdx_of_le_length hle _)
  · rw [editPlanStep_fit hp hi hfit hwork, if_neg (by rw [stepPlaced_insert]; omega), refuse]
  · refine operator_ok hs (editPlanDelete (.val p) (.val i) false) rfl ?_
    rw [editPlanDelete_val hp hi hwork, if_neg (Nat.not_le.2 hlt)]
    exact storeDraft_eq _ (List.length_eraseIdx_of_lt hlt)
  · exact operator_err hs (editPlanDelete (.val p) (.val i) false) rfl
      ((editPlanDelete_val hp hi hwork).trans (if_pos hge))
  · exact operator_ok hs (editPlanLabel (.val p) (.val label) false) rfl (editPlanLabel_val hp hlen hall hwork)

namespace Settled

/-- Settles O30: the next EDIT-PLAN finds no draft, and works on one made of the installed version. -/
theorem discardDraft : Obligations.DiscardDraft := by
  refine fun s tag p hs hp => ⟨fun hd => ?_, fun hd => ?_, fun v label hd hv hlen hall => ?_⟩
  · refine operator_err hs (Machine.discardDraft (.val p)) rfl ?_
    rw [discardDraft_val hp, heard_planAt, hd]
    rfl
  · refine operator_ok hs (Machine.discardDraft (.val p)) rfl ?_
    rw [discardDraft_val hp, heard_planAt, if_neg (by simpa [Option.isSome_iff_ne_none] using hd), fPlan]
  · have hwork : ((heard s).planAt p).workDraft = { label := v.label, steps := v.steps } := by
      rw [heard_planAt, Plan.workDraft, hd, hv]
    exact operator_ok hs (editPlanLabel (.val p) (.val label) false) rfl (editPlanLabel_val hp hlen hall hwork)

end Settled

/-! ### INSTALL-PLAN and REMOVE-PLAN -/

section
variable {s : State} {n i : Nat} {p : Plan} {d : Draft}

theorem installPlan_none (hn : n < 16) (hp : s.planAt n = p) (hd : p.draft = none) :
    installPlan (.val n) s = refuse .wrongState s := by
  rw [installPlan, index_val (by omega) hn]
  simp only [hp, hd]

theorem installPlan_invalid {r : DraftFault} (hn : n < 16) (hp : s.planAt n = p) (hd : p.draft = some d)
    (hf : draftFault d.steps = some (i, r)) : installPlan (.val n) s =
      (.err .draftInvalid [.field "STEP" (.num i), .field "REASON" (.word r.word)], s) := by
  rw [installPlan, index_val (by omega) hn]
  simp only [hp, hd, hf]

theorem installPlan_valid (hn : n < 16) (hp : s.planAt n = p) (hd : p.draft = some d)
    (hf : draftFault d.steps = none) : installPlan (.val n) s =
      if p.retiring.isSome then refuse .busy s
      else (.ok [.field "PLAN" (.num n), .field "VERSION" (.num (nextVersion p.counter)),
          .field "RETIRING" (versionNo (p.install d).retiring)], s.setPlan n (p.install d)) := by
  rw [installPlan, index_val (by omega) hn]
  simp only [hp, hd, hf]
  rfl

/-- R85: an install that replaces nothing, or a version without users. -/
theorem install_free (hr : p.retiring = none) (h : p.installed = none ∨ p.users = []) : p.install d =
    { installed := some { number := nextVersion p.counter, label := d.label, steps := d.steps }, users := [],
      retiring := none, rusers := p.rusers, draft := none, counter := nextVersion p.counter } := by
  have hkeep : (p.installed.isSome && !p.users.isEmpty) = false := by rcases h with h | h <;> simp [h]
  simp [Plan.install, hkeep, hr]

/-- R85: an install that replaces a version with users. -/
theorem install_used {v : Version} (hi : p.installed = some v) (hu : p.users ≠ []) : p.install d =
    { installed := some { number := nextVersion p.counter, label := d.label, steps := d.steps }, users := [],
      retiring := some v, rusers := p.users, draft := none, counter := nextVersion p.counter } := by
  simp [Plan.install, hi, hu]

theorem removePlan_none (hn : n < 16) (hp : s.planAt n = p) (hi : p.installed = none) :
    removePlan (.val n) s = refuse .wrongState s := by
  rw [removePlan, index_val (by omega) hn]
  simp [hp, hi]

/-- R86: the removal of a version with users. -/
theorem removePlan_used {v : Version} (hn : n < 16) (hp : s.planAt n = p) (hi : p.installed = some v)
    (hu : p.users ≠ []) : removePlan (.val n) s =
      if p.retiring.isSome then refuse .busy s
      else (.ok [.field "PLAN" (.num n), .field "INSTALLED" (.word "NONE"), .field "RETIRING" (.num v.number)],
        s.setPlan n { p with installed := none, users := [], retiring := some v, rusers := p.users }) := by
  rw [removePlan, index_val (by omega) hn]
  simp [hp, hi, hu, versionNo, fPlan]

/-- R86: and of one without. -/
theorem removePlan_unused {v : Version} (hn : n < 16) (hp : s.planAt n = p) (hi : p.installed = some v)
    (hu : p.users = []) : removePlan (.val n) s =
      (.ok [.field "PLAN" (.num n), .field "INSTALLED" (.word "NONE"), .field "RETIRING" (versionNo p.retiring)],
        s.setPlan n { p with installed := none }) := by
  rw [removePlan, index_val (by omega) hn]
  simp [hp, hi, hu, fPlan]

end

/-- R71, R85: 65,535 is followed by 1. -/
theorem nextVersion_eq (c : Nat) : nextVersion c = if c < 65535 then c + 1 else 1 := by
  rw [nextVersion, Config.word16Max, ← ite_not]
  simp only [not_le]

/-- Settles O31: the requests' answers by what they find of the plan, and the two ways to install. -/
theorem installAndRemovePlan : Obligations.InstallAndRemovePlan := by
  intro s tag n p hs hn hplan
  have hp : (heardDual s).planAt n = p := by rw [heardDual_planAt, hplan]
  have installErr {c} := custodian_err (c := c) hs (i := .installPlan tag (.val n)) (installPlan (.val n)) rfl
  have installOk {fields t} := custodian_ok (fields := fields) (t := t) hs (i := .installPlan tag (.val n))
    (installPlan (.val n)) rfl
  have removeErr {c} := custodian_err (c := c) hs (i := .removePlan tag (.val n)) (removePlan (.val n)) rfl
  have removeOk {fields t} := custodian_ok (fields := fields) (t := t) hs (i := .removePlan tag (.val n))
    (removePlan (.val n)) rfl
  refine ⟨fun hd => installErr (installPlan_none hn hp hd), fun d hd => ⟨fun i r hf => ?_, fun hf hret => installErr ?_,
      fun v hf hret hv => ?_⟩,
    fun hi => removeErr (removePlan_none hn hp hi), fun old hold => ⟨fun hu hret => removeErr ?_,
      fun hu hret => removeOk ?_, fun hu => removeOk (removePlan_unused hn hp hold hu)⟩⟩
  · rw [exec_request rfl, requestLine_custodian hs (h := installPlan (.val n)) rfl, installPlan_invalid hn hp hd hf]
    rfl
  · exact (installPlan_valid hn hp hd hf).trans (if_pos hret)
  · rw [← nextVersion_eq] at hv
    subst hv
    have hans := (installPlan_valid hn hp hd hf).trans (if_neg (by simp [hret]))
    refine ⟨fun hfree => installOk ?_, fun old hold hused => installOk ?_⟩
    · rw [hans, install_free hret hfree, versionNo]
    · rw [hans, install_used hold hused, versionNo]
  · exact (removePlan_used hn hp hold hu).trans (if_pos hret)
  · exact (removePlan_used hn hp hold hu).trans (if_neg (by simp [hret]))

/-- Settles O32: the reading answers from the plan, and from the version that WHICH names. -/
theorem planReads : Obligations.PlanReads := by
  intro s tag n i w p v hs hn hi hp hv
  have hwhich : ((heard s).planAt n).which w = v := by
    rw [heard_planAt, hp, hv]
    cases w <;> rfl
  refine ⟨?_, fun hnone => ?_, fun d hd => ⟨?_, fun hlen => ?_, fun st hst => ?_⟩⟩
  · refine operator_ok hs (readPlan (.val n)) rfl ?_
    rw [readPlan, index_val (by omega) hn, heard_planAt, hp]
    dsimp only
    cases p.installed <;> cases p.retiring <;> rfl
  · exact operator_err hs (readPlanStep (.val n) (.val w) (.val i)) rfl (readPlanStep_none hn hi (hwhich.trans hnone))
  · exact operator_ok hs (readPlanStep (.val n) (.val w) .absent) rfl (readPlanStep_whole hn (hwhich.trans hd))
  · exact operator_err hs (readPlanStep (.val n) (.val w) (.val i)) rfl (readPlanStep_past hn hi (hwhich.trans hd) hlen)
  · exact operator_ok hs (readPlanStep (.val n) (.val w) (.val i)) rfl (readPlanStep_step hn hi (hwhich.trans hd) hst)

end Sys2Proof.Machine

namespace Sys2Proof.Machine

/-! ## What a window tests (R93, R94): O34 -/

section
variable {p m : Text}

/-- R93: a model pattern matches place by place. -/
theorem modelMatches_iff (h : p.length = m.length) :
    modelMatches p m = true ↔ ∀ i < p.length, p[i]? = some chWild ∨ p[i]? = m[i]? := by
  simp only [modelMatches, h, decide_true, Bool.true_and, List.all_eq_true, List.forall_mem_iff_getElem,
    List.length_zip, Nat.min_self, List.getElem_zip, Bool.or_eq_true, decide_eq_true_eq]
  refine forall_congr' fun i => forall_congr' fun hi => ?_
  rw [List.getElem?_eq_getElem (h ▸ hi), List.getElem?_eq_getElem hi, Option.some_inj, Option.some_inj]

/-- R93: a pattern of ? alone matches every model of its length. -/
theorem modelMatches_wild (m : Text) : modelMatches (List.replicate m.length chWild) m = true :=
  (modelMatches_iff List.length_replicate).2 fun _ hi => .inl (List.getElem?_replicate_of_lt (by simpa using hi))

/-- R93: a pattern without a ? matches the model that it spells. -/
theorem modelMatches_literal (h : p.length = m.length) (hp : chWild ∉ p) : modelMatches p m = true ↔ m = p := by
  rw [modelMatches_iff h]
  constructor
  · intro hall
    refine List.ext_getElem? fun i => ?_
    by_cases hi : i < p.length
    · exact ((hall i hi).resolve_left fun hw => hp (List.mem_of_getElem? hw)).symm
    · rw [List.getElem?_eq_none (by omega), List.getElem?_eq_none (by omega)]
  · rintro rfl i -
    exact .inr rfl

end

section
variable {x b m low high : BitVec 32}

theorem passes_mask : (SerialTest.mask b m).passes x = true ↔ x &&& m = b &&& m := decide_eq_true_iff

theorem passes_span : (SerialTest.span low high).passes x = true ↔ low.toNat ≤ x.toNat ∧ x.toNat ≤ high.toNat := by
  rw [SerialTest.passes, Bool.and_eq_true, decide_eq_true_eq, decide_eq_true_eq]

theorem passes_mask_zeros : (SerialTest.mask b 0).passes x = true :=
  passes_mask.2 (BitVec.and_zero.trans BitVec.and_zero.symm)

theorem passes_mask_ones : (SerialTest.mask b (BitVec.allOnes 32)).passes x = true ↔ x = b := by
  rw [passes_mask, BitVec.and_allOnes, BitVec.and_allOnes]

theorem passes_span_one : (SerialTest.span low low).passes x = true ↔ x = low := by
  rw [passes_span, ← BitVec.toNat_inj]
  omega

/-- A mask of the high byte keeps the high byte: two shifts, so a division. -/
theorem and_highByte_toNat (x : BitVec 32) : (x &&& 0xFF000000).toNat = x.toNat / 2 ^ 24 * 2 ^ 24 := by
  have h : x &&& (0xFF000000 : BitVec 32) = x >>> 24 <<< 24 := (BitVec.shiftLeft_ushiftRight (x := x) (n := 24)).symm
  rw [h, BitVec.toNat_shiftLeft, BitVec.toNat_ushiftRight, Nat.shiftLeft_eq, Nat.shiftRight_eq_div_pow]
  omega

/-- R94: a mask of the high byte passes the serial numbers with the base's high byte. -/
theorem passes_mask_highByte :
    (SerialTest.mask b 0xFF000000).passes x = true ↔ x.toNat / 2 ^ 24 = b.toNat / 2 ^ 24 := by
  rw [passes_mask, ← BitVec.toNat_inj, and_highByte_toNat, and_highByte_toNat]
  omega

end

/-- Settles O34: the pattern by its places, the serial tests each by what it passes. -/
theorem windowMatching : Obligations.WindowMatching := by
  refine ⟨fun p m hp hm => ?_, fun m hm => ?_, fun m hm => modelMatches_literal (by rw [hm]; rfl) (by decide),
    by decide, by decide, fun serial b m low high => ⟨rfl, passes_mask, passes_span, passes_mask_zeros,
      passes_mask_ones, passes_span_one, ?_⟩⟩
  · have h := modelMatches_iff (hp.trans hm.symm)
    rwa [hp] at h
  · have h := modelMatches_wild m
    rwa [hm] at h
  · rw [passes_mask_highByte, show BitVec.toNat (0x7F00AB00 : BitVec 32) = 0x7F00AB00 from rfl]
    omega

end Sys2Proof.Machine

namespace Sys2Proof.Machine

/-! ## The route decision (R95, R96, R121): O35 -/

theorem windowAt_eq_some {s : State} {n : Nat} {w : Window} :
    s.windowAt n = some w ↔ s.windows.toList[n]? = some (some w) := by
  rw [State.windowAt, look, Vector.getElem?_toList]
  cases s.windows[n]? <;> simp

/-- R95: what a match asks of an identity. -/
theorem hits_iff {w : Window} {i : Identity} : w.hits i = true ↔
    w.enabled = true ∧ modelMatches w.model i.model = true ∧ w.test.passes i.serial = true ∧
      (∀ m, w.minfw = some m → m ≤ i.firmware.toNat) := by
  cases h : w.minfw <;> simp [Window.hits, h, and_assoc]

section
variable {i : Identity} {d : DefaultRoute} {l : List (Option Window)} {s : State}

/-- R96: the first window of the list that matches decides. -/
theorem decideFrom_first {w : Window} {k : Nat} (hk : l[k]? = some (some w)) (hw : w.hits i = true)
    (hfirst : ∀ j x, j < k → l[j]? = some (some x) → x.hits i = false) (n : Nat) :
    decideFrom i d n l = w.verdict (n + k) := by
  induction l generalizing n k with
  | nil => simp at hk
  | cons x l ih =>
    cases k with
    | zero =>
      obtain rfl : x = some w := by simpa using hk
      simp [decideFrom, hw]
    | succ k =>
      have hrest : decideFrom i d (n + 1) l = w.verdict (n + (k + 1)) := by
        rw [ih (by simpa using hk) fun j y hj hy => hfirst (j + 1) y (by omega) (by simpa using hy)]
        congr 1
        omega
      cases x with
      | none => exact hrest
      | some x => rw [decideFrom, hfirst 0 x (by omega) rfl, if_neg Bool.false_ne_true, hrest]

/-- R96: where none matches, the default route does. -/
theorem decideFrom_default (hnone : ∀ (j : Nat) (x : Window), l[j]? = some (some x) → x.hits i = false) (n : Nat) :
    decideFrom i d n l = d.verdict := by
  induction l generalizing n with
  | nil => rfl
  | cons x l ih =>
    have hrest := ih (fun j y hy => hnone (j + 1) y (by simpa using hy)) (n + 1)
    cases x with
    | none => exact hrest
    | some x => rw [decideFrom, hnone 0 x rfl, if_neg Bool.false_ne_true, hrest]

theorem decideRoute_first {n : Nat} {w : Window} (hn : s.windowAt n = some w) (hw : w.hits i = true)
    (hfirst : ∀ k x, k < n → s.windowAt k = some x → x.hits i = false) :
    decideRoute (some i) s = w.verdict n := by
  have h := decideFrom_first (d := s.defaultRoute) (windowAt_eq_some.1 hn) hw
    (fun k x hk hx => hfirst k x hk (windowAt_eq_some.2 hx)) 0
  rwa [Nat.zero_add] at h

theorem decideRoute_default (hnone : ∀ k x, s.windowAt k = some x → x.hits i = false) :
    decideRoute (some i) s = s.defaultRoute.verdict :=
  decideFrom_default (fun k x hx => hnone k x (windowAt_eq_some.2 hx)) 0

end

/-! ### ROUTE -/

section
variable {s : State} {n p : Nat} {c : RunContext} {src : RouteSource} {v : Version}

theorem bindVersion_noPlan {b : Bool} (h : (s.planAt p).installed = none) : bindVersion n p b s = .noPlan := by
  simp only [bindVersion, h]

theorem bindVersion_routes (h : (s.planAt p).installed = some v) (hv : routes v.steps = true) :
    bindVersion n p true s = .routes := by
  simp only [bindVersion, h, hv, Bool.and_self, if_true]

theorem routeStep_reject (h : decideRoute c.identity s = (none, src)) :
    routeStep n c s = (s, .fin (.rejectedRoute src) none) := by
  simp only [routeStep, h]

theorem routeStep_noPlan (h : decideRoute c.identity s = (some p, src)) (hp : (s.planAt p).installed = none) :
    routeStep n c s = (s, .fin (.routeFailed false) none) := by
  simp only [routeStep, h, bindVersion_noPlan hp]

theorem routeStep_routes (h : decideRoute c.identity s = (some p, src)) (hp : (s.planAt p).installed = some v)
    (hv : routes v.steps = true) : routeStep n c s = (s, .fin (.routeFailed true) none) := by
  simp only [routeStep, h, bindVersion_routes hp hv]

end

/-- Settles O35: the decision by the place of the first match (`decideFrom_first`), ROUTE by what its version bind
answers. -/
theorem routeDecision : Obligations.RouteDecision := by
  refine ⟨fun s i => ⟨fun n w _ hn hw hfirst => ?_, fun hnone => ?_⟩, fun w i => hits_iff, fun s n c src =>
    ⟨routeStep_reject, fun p hp => ⟨routeStep_noPlan hp, fun v hv hr => routeStep_routes hp hv (routes_iff.2 hr)⟩⟩⟩
  · rw [decideRoute_first hn hw hfirst]
    refine ⟨fun p hk hp => ?_, fun hk => ?_⟩
    · simp only [Window.verdict, hk, hp, Option.getD_some]
    · simp only [Window.verdict, hk]
  · rw [decideRoute_default hnone]
    exact ⟨fun h => by rw [h]; rfl, fun p h => by rw [h]; rfl⟩

end Sys2Proof.Machine

namespace Sys2Proof.Machine

/-! ## The requests of the Window Table (R92, R98 to R103): O36, O37 -/

/-- R92: the windows that an OPERATOR-level request does not see. -/
theorem hiddenFrom_iff {lv : Level} {x : Option Window} :
    hiddenFrom lv x = true ↔ lv = .operator ∧ x.map Window.owner = some .custodian := by
  cases x <;> simp [hiddenFrom]

theorem hiddenFrom_some {lv : Level} {w : Window} :
    hiddenFrom lv (some w) = true ↔ lv = .operator ∧ w.owner = .custodian := by simp [hiddenFrom]

theorem hiddenFrom_none {lv : Level} : hiddenFrom lv none = false := rfl

/-- R92: the windows that a request sees. -/
theorem hiddenFrom_some_eq_false {lv : Level} {w : Window} :
    hiddenFrom lv (some w) = false ↔ lv = .custodian ∨ w.owner = .operator := by
  cases lv <;> cases h : w.owner <;> simp [hiddenFrom, h]

/-! ### The requests that change the table -/

/-- An optional value is read. -/
theorem opt_optArg {α : Type} {o : Option α} {s : State} {k : Option α → Answer × State} :
    (optArg o).opt s k = k o := by cases o <;> rfl

theorem getD_zero_lt {o : Option Nat} {b : Nat} (hb : 0 < b) (h : ∀ v, o = some v → v < b) : o.getD 0 < b := by
  cases o with
  | none => exact hb
  | some v => exact h v rfl

/-- R98: the arguments of SET-WINDOW with KIND that pass checks 1 and 2, and what they give. -/
structure WindowArgs.Fit (a : WindowArgs) (n : Nat) (kind : WindowKind) (model : Text) (t : SerialTest)
    (minfw plan : Option Nat) (enabled : Option Bool) (owner : Option Owner) : Prop where
  windowArg : a.window = .val n
  kindArg : a.kind = .val kind
  modelArg : a.model = .val model
  testArgs : a.serialTest? = some t
  minfwArg : a.minfw = optArg minfw
  planArg : a.plan = optArg plan
  enabledArg : a.enabled = optArg enabled
  ownerArg : a.owner = optArg owner
  pattern : isPattern model = true
  planFits : kind = .route ↔ plan.isSome
  windowInRange : n < 16
  planInRange : ∀ p, plan = some p → p < 16
  minfwInRange : ∀ m, minfw = some m → m ≤ 65535
  spanInRange : ∀ lo hi, t = .span lo hi → lo.toNat ≤ hi.toNat

/-- R98, check 1. -/
theorem planArgFits_iff {kind : WindowKind} {plan : Option Nat} :
    planArgFits kind plan = true ↔ (kind = .route ↔ plan.isSome) := by
  cases kind <;> cases plan <;> simp [planArgFits]

/-- R98, check 2. -/
theorem windowInRange_iff {n : Nat} {t : SerialTest} {minfw plan : Option Nat} :
    windowInRange n t minfw plan = true ↔ n < 16 ∧ (∀ p, plan = some p → p < 16) ∧
      (∀ m, minfw = some m → m ≤ Config.word16Max) ∧ ∀ lo hi, t = .span lo hi → lo.toNat ≤ hi.toNat := by
  cases t <;> cases minfw <;> cases plan <;> simp [windowInRange, and_assoc]

/-- R98: an OWNER left out leaves the owner, and gives a new window the request's level. -/
theorem windowOwner_eq {given : Option Owner} {lv : Level} {x : Option Window} :
    windowOwner given lv x = given.getD ((x.map Window.owner).getD
      (match lv with | .operator => .operator | .custodian => .custodian)) := by
  cases given <;> cases x <;> cases lv <;> rfl

section
variable {s : State} {n p : Nat} {lv : Level} {e : Bool} {w : Window}

/-- R98: past checks 1 and 2, the ownership of the window decides. -/
theorem setWindow_fit {a : WindowArgs} {kind : WindowKind} {model : Text} {t : SerialTest} {minfw plan : Option Nat}
    {enabled : Option Bool} {owner : Option Owner} (h : a.Fit n kind model t minfw plan enabled owner)
    (hw : w = { enabled := enabled.getD true, owner := windowOwner owner lv (s.windowAt n), kind := kind,
                model := model, test := t, minfw := minfw, plan := plan }) :
    setWindow a lv s =
      if hiddenFrom lv (s.windowAt n) then refuse .hidden s
      else if lv = .operator ∧ owner = some .custodian then refuse .notAuthorised s
      else (.ok (windowItems n lv (some w)), s.setWindow n (some w)) := by
  subst hw
  have hn : n < 10 ^ 7 := h.windowInRange.trans (by decide)
  have hplan : plan.getD 0 < 10 ^ 7 := getD_zero_lt (by decide) fun p hp => (h.planInRange p hp).trans (by decide)
  have hminfw : minfw.getD 0 < 10 ^ 7 :=
    getD_zero_lt (by decide) fun m hm => (h.minfwInRange m hm).trans_lt (by decide)
  have hrange := windowInRange_iff.2 ⟨h.windowInRange, h.planInRange, h.minfwInRange, h.spanInRange⟩
  rw [setWindow, h.windowArg, h.kindArg, h.modelArg, h.minfwArg, h.planArg, h.enabledArg, h.ownerArg, num_val hn]
  simp only [Arg.need, optNum_optArg hminfw, optNum_optArg hplan, opt_optArg, h.testArgs, h.pattern,
    planArgFits_iff.2 h.planFits, hrange, Bool.not_true, Bool.or_self, Bool.false_eq_true, if_false,
    Bool.and_eq_true, decide_eq_true_eq]

/-- R99: SET-WINDOW without KIND. -/
theorem setWindowEnabled_val (hn : n < 16) : setWindowEnabled (.val n) (.val e) false lv s =
    if hiddenFrom lv (s.windowAt n) then refuse .hidden s
    else match s.windowAt n with
      | none => refuse .wrongState s
      | some w => (.ok (windowItems n lv (some { w with enabled := e })),
          s.setWindow n (some { w with enabled := e })) := by
  rw [setWindowEnabled, num_val (by omega), Arg.need, if_neg Bool.false_ne_true]
  exact below_lt hn

theorem clearWindow_val (hn : n < 16) : clearWindow (.val n) lv s =
    if hiddenFrom lv (s.windowAt n) then refuse .hidden s
    else if (s.windowAt n).isNone then refuse .wrongState s
    else (.ok [fWindow n, .field "KIND" (.word "NONE")], s.setWindow n none) := by
  rw [clearWindow, index_val (by omega) hn]

theorem setDefaultRoute_plan (hp : p < 10 ^ 8) : setDefaultRoute (.val (.plan p)) s =
    if p < 16 then (.ok [.field "DEFAULT" (.num p)], { s with defaultRoute := .plan p }) else refuse .range s := by
  rw [setDefaultRoute, Arg.need]
  dsimp only
  rw [if_neg (by omega)]
  rfl

end

/-- Settles O36: what each request answers (`setWindow_fit` and the lemmas after it), by the ownership of the window. -/
theorem windowChanges : Obligations.WindowChanges := by
  refine ⟨fun s tag n lv hs hn => ⟨?_, fun e => ?_⟩, fun s tag p hs hp => ?_⟩
  · intro a kind model t minfw plan enabled owner hwindow hkind hmodel htest hminfw hplan henabled howner hpattern hfits
      hplanRange hminfwRange hspan
    have hfit : a.Fit n kind model t minfw plan enabled owner := ⟨hwindow, hkind, hmodel, htest, hminfw, hplan,
      henabled, howner, hpattern, hfits, hn, hplanRange, hminfwRange, hspan⟩
    have hset := setWindow_fit (s := heardAt lv s) (lv := lv) hfit rfl
    rw [heardAt_windowAt, windowOwner_eq] at hset
    have setErr {c} := level_err (c := c) hs (i := .setWindow tag a lv) (setWindow a lv) rfl
    refine ⟨fun hlv hown => setErr (hset.trans (if_pos ?_)), fun hlv hown hgiven => setErr ?_, fun hsees w hw => ?_⟩
    · exact hiddenFrom_iff.2 ⟨hlv, hown⟩
    · have hvis : ¬hiddenFrom lv (s.windowAt n) := fun h => hown (hiddenFrom_iff.1 h).2
      exact hset.trans ((if_neg hvis).trans (if_pos ⟨hlv, hgiven⟩))
    · subst hw
      have hvis : ¬hiddenFrom lv (s.windowAt n) := by
        rw [hiddenFrom_iff]
        rintro ⟨rfl, hown⟩
        exact hsees.elim nofun fun h => h.1 hown
      have hgives : ¬(lv = .operator ∧ owner = some .custodian) := by
        rintro ⟨rfl, hgiven⟩
        exact hsees.elim nofun fun h => h.2 hgiven
      exact level_ok hs (setWindow a lv) rfl (hset.trans ((if_neg hvis).trans (if_neg hgives)))
  · have hset := setWindowEnabled_val (s := heardAt lv s) (lv := lv) (e := e) hn
    have hclear := clearWindow_val (s := heardAt lv s) (lv := lv) hn
    rw [heardAt_windowAt] at hset hclear
    have setErr {c} := level_err (c := c) hs (i := .setWindowEnabled tag (.val n) (.val e) false lv)
      (setWindowEnabled (.val n) (.val e) false lv) rfl
    have clearErr {c} := level_err (c := c) hs (i := .clearWindow tag (.val n) lv) (clearWindow (.val n) lv) rfl
    refine ⟨fun hlv hown => ?_, fun hnone => ?_, fun w hw hsees => ?_⟩
    · have hhid := hiddenFrom_iff.2 ⟨hlv, hown⟩
      exact ⟨setErr (hset.trans (if_pos hhid)), clearErr (hclear.trans (if_pos hhid))⟩
    · rw [hnone, hiddenFrom_none] at hset hclear
      exact ⟨setErr hset, clearErr hclear⟩
    · rw [hw, hiddenFrom_some_eq_false.2 hsees] at hset hclear
      exact ⟨level_ok hs (setWindowEnabled (.val n) (.val e) false lv) rfl hset,
        level_ok hs (clearWindow (.val n) lv) rfl hclear⟩
  · have hplan := setDefaultRoute_plan (s := heardDual s) hp
    exact ⟨custodian_ok hs (setDefaultRoute (.val .reject)) rfl rfl,
      fun h => custodian_ok hs (setDefaultRoute (.val (.plan p))) rfl (hplan.trans (if_pos h)),
      fun h => custodian_err hs (setDefaultRoute (.val (.plan p))) rfl (hplan.trans (if_neg (by omega)))⟩

/-! ### The requests that read it -/

/-- R101: a window as a request that sees it shows it. -/
theorem windowItems_seen {n : Nat} {lv : Level} {w : Window} (h : hiddenFrom lv (some w) = false) :
    windowItems n lv (some w) = List.flatten
      [[.field "WINDOW" (.num n), .field "OWNER" (.word w.owner.word), .field "KIND" (.word w.kind.word),
        .field "ENABLED" (yesNo w.enabled), .field "MODEL" (.raw w.model)], w.test.items,
        (match w.minfw with | some m => [.field "MINFW" (.num m)] | none => []),
        (match w.plan with | some p => [.field "PLAN" (.num p)] | none => [])] := by
  rw [windowItems, if_neg (by rw [h]; exact Bool.false_ne_true), fWindow]
  cases w.minfw <;> cases w.plan <;> simp

theorem windowItems_hidden {n : Nat} {lv : Level} {w : Window} (h : hiddenFrom lv (some w) = true) :
    windowItems n lv (some w) = [fWindow n, .field "KIND" (.word "HIDDEN")] := if_pos h

/-- R102: the letter of a defined window. -/
theorem windowLetter_some {lv : Level} {w : Window} : windowLetter lv (some w) =
    if lv = .operator ∧ w.owner = .custodian then 0x48#8
    else match w.kind, w.enabled with
      | .route, true => 0x52#8
      | .route, false => 0x72#8
      | .exclude, true => 0x58#8
      | .exclude, false => 0x78#8 := by
  by_cases h : lv = .operator ∧ w.owner = .custodian
  · rw [if_pos h]
    exact if_pos (hiddenFrom_some.2 h)
  · rw [if_neg h]
    exact if_neg (hiddenFrom_some.not.2 h)

theorem readWindow_val {s : State} {n : Nat} {lv : Level} (hn : n < 16) :
    readWindow (.val n) lv s = (.ok (windowItems n lv (s.windowAt n)), s) := index_val (by omega) hn

/-- Settles O37: READ-WINDOW by what the window hides from the level, the summary letter by letter. -/
theorem windowReads : Obligations.WindowReads := by
  intro s tag n lv hs hn
  have hread := readWindow_val (s := heardAt lv s) (lv := lv) hn
  rw [heardAt_windowAt] at hread
  have readOk {fields t} := level_ok (fields := fields) (t := t) hs (i := .readWindow tag (.val n) lv)
    (readWindow (.val n) lv) rfl
  refine ⟨fun hnone => ?_, fun w hw => ⟨fun hlv hown => ?_, fun hsees => ?_⟩, ?_⟩
  · exact readOk (by rw [hread, hnone]; rfl)
  · exact readOk (by rw [hread, hw, windowItems_hidden (hiddenFrom_some.2 ⟨hlv, hown⟩), fWindow])
  · refine readOk ?_
    rw [hread, hw, windowItems_seen (hiddenFrom_some_eq_false.2 hsees)]
    rfl
  · refine level_ok hs (readWindowSummary lv) rfl ?_
    rw [readWindowSummary, heardAt_windows, heardAt_defaultRoute]
    congr 5
    refine List.map_congr_left fun x _ => ?_
    cases x with
    | none => rfl
    | some w => exact windowLetter_some

end Sys2Proof.Machine

namespace Sys2Proof.Machine

/-! ## A run at its current step: what its timer, its terminal and its replies lead to (R114 to R120, R124) -/

/-- R113, R165: what the lane writes into its OPEN entry. -/
def RunContext.enter (c : RunContext) (r : Record) : Record :=
  { r with version := c.version, routed := c.routed, identity := c.identity, deliveries := c.deliveries, notes := c.notes }

theorem syncOpen_none {s : State} {n : Nat} (h : s.ctxAt n = none) : syncOpen n s = s := by
  rw [syncOpen, show (s.laneAt n).ctx = none from h]

theorem syncOpen_some {s : State} {n : Nat} {c : RunContext} (hc : s.ctxAt n = some c) :
    syncOpen n s = s.modOpen n c.enter := by
  rw [syncOpen, show (s.laneAt n).ctx = some c from hc]
  rfl

section
variable (s : State) (n : Nat)

theorem clearAwait_clearAwait : clearAwait n (clearAwait n s) = clearAwait n s := by
  have hswap (u : State) (f : BenchLine → BenchLine) (t : Option Nat) :
      (u.modLine n f).setTimer n t = (u.setTimer n t).modLine n f := rfl
  rw [clearAwait, clearAwait, hswap, modLine_modLine, State.setTimer, State.setTimer, modLane_modLane]

@[simp] theorem clearAwait_ctxAt (m : Nat) : (clearAwait n s).ctxAt m = s.ctxAt m := by
  rw [clearAwait, ctxAt_modLine, ctxAt_setTimer]

theorem clearAwait_modCtx (f : RunContext → RunContext) :
    clearAwait n (s.modCtx n f) = (clearAwait n s).modCtx n f := by
  rw [clearAwait, clearAwait, modLine_modCtx, State.setTimer, State.setTimer, State.modCtx, State.modCtx,
    modLane_modLane, modLane_modLane]

theorem clearAwait_syncOpen : clearAwait n (syncOpen n s) = syncOpen n (clearAwait n s) := by
  cases hc : s.ctxAt n with
  | none => rw [syncOpen_none hc, syncOpen_none (by rwa [clearAwait_ctxAt])]
  | some c =>
    rw [syncOpen_some hc, syncOpen_some (by rwa [clearAwait_ctxAt])]
    rfl

end

section
variable {s : State} {n : Nat} {c : RunContext} (hc : s.ctxAt n = some c)

theorem goOn_fin (o : Outcome) : goOn n (s, .fin o none) = endRun n o s := rfl

include hc

/-- R114: the last step completes. -/
theorem goOn_done_last (ha : c.abortPending = false) (hl : c.steps.length ≤ c.step + 1) :
    goOn n (s, .done) = endRun n .complete (clearAwait n s) := by
  have hnext : nextStep n (clearAwait n s) = (clearAwait n s, some (.complete, none)) := by
    simp [nextStep, hc, ha, Nat.not_lt.2 hl]
  rw [goOn, show stepFuel = 49 + 1 from rfl, proceed, hnext]
  rfl

/-- R116: a frame step that fails with no delivery under way. -/
theorem failFrame_quiet (hd : c.delivering = false) (o : Outcome) (p : DeliveryPhase) (w : Option Refuse) :
    failFrame n o p w s = (clearAwait n s, .fin o none) := by
  simp [failFrame, endDelivery, hc, hd]

/-- R124, Table 6-5: a delivery that ends in a failure. -/
theorem failFrame_delivering (hd : c.delivering = true) (o : Outcome) (p : DeliveryPhase) (w : Option Refuse) :
    failFrame n o p w s = ((clearAwait n s).modDelivery n fun d => { d with phase := p, reason := w },
      .fin (if c.abortPending then o.underAbort else o) none) := by
  simp [failFrame, endDelivery, hc, hd]

theorem endDelivery_quiet (hd : c.delivering = false) (p : DeliveryPhase) (w : Option Refuse) :
    endDelivery n p w s = s := by simp [endDelivery, hc, hd]

theorem endDelivery_delivering (hd : c.delivering = true) (p : DeliveryPhase) (w : Option Refuse) :
    endDelivery n p w s = s.modDelivery n fun d => { d with phase := p, reason := w } := by
  simp [endDelivery, hc, hd]

end

/-! ### The replies of a terminal (R116, R118 to R120): O48 -/

section
variable {s : State} {n : Nat} {c : RunContext} {st : Step}

/-- R124: a delivery under way is that of a LOAD step. -/
theorem isLoad_of_delivering (hst : c.current = some st) (hd : c.delivering = true) :
    st.kind = .loadDirect ∨ st.kind = .loadDerived := by
  have hload : st.kind.isLoad = true := by
    simp only [RunContext.delivering, hst, Option.map_some, Bool.and_eq_true, decide_eq_true_eq, Option.some.injEq] at hd
    exact hd.1
  cases hk : st.kind <;> simp [hk, StepKind.isLoad] at hload ⊢

variable (hc : s.ctxAt n = some c) (hst : c.current = some st)
include hc hst

/-! R116: who takes a reply, by its kind and the step's. -/

theorem takeReply_wait : takeReply n .wait s = takeWait n c st s := by
  simp only [takeReply, hc, hst]

theorem takeReply_refuse (why : Refuse) :
    takeReply n (.refuse why) s = failFrame n (.terminalRefused why) .refused (some why) s := by
  simp only [takeReply, hc, hst]

theorem takeReply_other : takeReply n .other s = failFrame n .protocol .unanswered none s := by
  simp only [takeReply, hc, hst]

theorem takeReply_malformed (k : ReplyKind) :
    takeReply n (.malformed k) s = failFrame n .protocol .unanswered none s := by
  simp only [takeReply, hc, hst]

theorem takeReply_ready (hk : st.kind = .hail) : takeReply n .ready s = (s, .done) := by
  simp only [takeReply, hc, hst, hk]

theorem takeReply_done (hk : st.kind = .tag ∨ st.kind = .seal) : takeReply n .done s = (s, .done) := by
  rcases hk with hk | hk <;> simp only [takeReply, hc, hst, hk]

theorem takeReply_done_hail (hk : st.kind = .hail) :
    takeReply n .done s = failFrame n .protocol .unanswered none s := by
  simp only [takeReply, hc, hst, hk]

theorem takeReply_accept (hk : st.kind = .loadDirect ∨ st.kind = .loadDerived) (p : Nat) (v : CheckValue) :
    takeReply n (.accept p v) s = takeAccept n c p v s := by
  rcases hk with hk | hk <;> simp only [takeReply, hc, hst, hk]

theorem takeReply_check (hk : st.kind = .verify) (p : Nat) (v : CheckValue) :
    takeReply n (.check p v) s = takeCheck n c st p v s := by
  simp only [takeReply, hc, hst, hk]

end

/-- Settles O48: who takes the reply (`takeReply_wait` and the lemmas after it), and where a frame step fails, whether a
delivery ends with it (`failFrame_quiet`, `failFrame_delivering`). -/
theorem replies : Obligations.Replies := by
  rintro s n c st - hc hst - - u hu
  replace hu : u = clearAwait n s := hu
  subst hu
  refine ⟨fun hw => ?_, fun hquiet => ⟨fun hw => ?_, fun why => ?_, ?_, fun k => ?_, fun hk => ⟨?_, ?_⟩, fun hk => ?_,
    fun p v hk hp => ⟨fun hv => ?_, fun hv hcont => ?_⟩⟩, fun d v hd hdel => ⟨fun hv => ?_, fun hv => ?_, fun p hp => ?_,
    fun why => ?_⟩⟩
  · rw [takeReply_wait hc hst, takeWait, if_pos hw]
  · rw [takeReply_wait hc hst, takeWait, if_neg (by omega), failFrame_quiet hc hquiet]
  · rw [takeReply_refuse hc hst, failFrame_quiet hc hquiet]
  · rw [takeReply_other hc hst, failFrame_quiet hc hquiet]
  · rw [takeReply_malformed hc hst, failFrame_quiet hc hquiet]
  · exact takeReply_ready hc hst hk
  · rw [takeReply_done_hail hc hst hk, failFrame_quiet hc hquiet]
  · exact takeReply_done hc hst (.inr hk)
  · rw [takeReply_check hc hst hk, takeCheck, if_neg (not_not.2 hp), if_pos hv]
  · have hstop : ¬st.continues = true := by simp [Step.continues, hcont]
    rw [takeReply_check hc hst hk, takeCheck, if_neg (not_not.2 hp), if_neg hv, if_neg hstop, failFrame_quiet hc hquiet]
  all_goals have hload := isLoad_of_delivering hst hd
  · rw [takeReply_accept hc hst hload, takeAccept, hdel]
    dsimp only
    rw [if_neg (not_not.2 rfl), if_pos hv, endDelivery_delivering hc hd]
  · rw [takeReply_accept hc hst hload, takeAccept, hdel]
    dsimp only
    rw [if_neg (not_not.2 rfl), if_neg hv, failFrame_delivering hc hd]
    rfl
  · rw [takeReply_accept hc hst hload, takeAccept, hdel]
    dsimp only
    rw [if_pos hp.symm, failFrame_delivering hc hd]
    rfl
  · rw [takeReply_refuse hc hst, failFrame_delivering hc hd]
    rfl

/-! ### The step timer, and a HELD lane's retry (R110, R117, R120, R124): O43 -/

/-- R164: a reservation that finds the Record Queue full and reported. -/
theorem refuseRecord_reported {s : State} {n : Nat} (hf : s.records.fullReported = true) :
    refuseRecord n s = { s with records := { s.records with
      waiting := insertAsc n s.records.waiting, told := s.records.told.filter (· ≠ n) } } := by
  rw [refuseRecord, if_pos hf, ← hf]

/-- R110, R164: a lane that is HELD already sends no second LANE-HELD. -/
theorem holdLane_held {s : State} {n : Nat} {q : RunRequest} (hs : (s.laneAt n).state = .held)
    (hf : s.records.fullReported = true) : holdLane n q s = { s with records := { s.records with
      waiting := insertAsc n s.records.waiting, told := s.records.told.filter (· ≠ n) } } := by
  have hself : (s.modLane n fun l => { l with state := .held }) = s := by
    rw [State.modLane, ← hs]
    exact modLane_self s n
  rw [holdLane, if_pos hs, hself, refuseRecord_reported hf]

/-- R110: run start with no place free. -/
theorem startAt_full {s : State} {n : Nat} {q : RunRequest} {rest : List RunRequest} (hq : (s.laneAt n).queue = q :: rest)
    (hfull : s.records.entries.length = 48) : startAt n s = holdLane n q s := by
  have hplace : ¬placeFree s = true := by simp [placeFree, hfull, Config.recordPlaces]
  rw [startAt, runStart, hq]
  dsimp only
  rw [if_neg hplace]
  rfl

section
variable {s : State} {n : Nat} {c : RunContext}

theorem timerExpiry_stopped (h : (s.laneAt n).timer = none) : timerExpiry n s = s := by
  simp only [timerExpiry, h]

variable (ht : (s.laneAt n).timer.isSome) (hc : s.ctxAt n = some c)
include ht hc

theorem timerExpiry_awaiting (hg : c.stage = .awaiting) : timerExpiry n s = endRun n .timeout (clearAwait n s) := by
  obtain ⟨t, ht⟩ := Option.isSome_iff_exists.1 ht
  simp only [timerExpiry, ht, hc, hg, goOn_fin]

theorem timerExpiry_pausing (hg : c.stage = .pausing) : timerExpiry n s = goOn n (clearAwait n s, .done) := by
  obtain ⟨t, ht⟩ := Option.isSome_iff_exists.1 ht
  simp only [timerExpiry, ht, hc, hg]

theorem timerExpiry_frame (hg : c.stage = .frame) : timerExpiry n s =
    if (c.current.map Step.continues) = some true then goOn n (noteStep n .timeout (clearAwait n s))
    else goOn n (failFrame n .timeout .unanswered none (clearAwait n s)) := by
  obtain ⟨t, ht⟩ := Option.isSome_iff_exists.1 ht
  simp only [timerExpiry, ht, hc, hg]

/-- R117: no reply came at a frame step that does not continue. -/
theorem timerExpiry_fails (hg : c.stage = .frame) (hd : c.delivering = false) {st : Step} (hst : c.current = some st)
    (hk : st.continues = false) : timerExpiry n s = endRun n .timeout (clearAwait n s) := by
  rw [timerExpiry_frame ht hc hg, if_neg (by simp [hst, hk]), failFrame_quiet (by rwa [clearAwait_ctxAt]) hd,
    clearAwait_clearAwait, goOn_fin]

/-- R120: no reply came at a last step that continues. -/
theorem timerExpiry_notes (hn : n < 8) (hg : c.stage = .frame) {st : Step} (hst : c.current = some st)
    (hk : st.continues = true) (ha : c.abortPending = false) (hl : c.steps.length ≤ c.step + 1) :
    timerExpiry n s = endRun n .complete (syncOpen n ((clearAwait n s).modCtx n fun c =>
      { c with notes := c.notes ++ [{ step := c.step, kind := .timeout }] })) := by
  have hnoted : (syncOpen n ((clearAwait n s).modCtx n fun c =>
      { c with notes := c.notes ++ [{ step := c.step, kind := .timeout }] })).ctxAt n =
        some { c with notes := c.notes ++ [{ step := c.step, kind := .timeout }] } := by
    rw [syncOpen_ctxAt]
    exact ctxAt_modCtx_self _ _ hn (by rwa [clearAwait_ctxAt])
  rw [timerExpiry_frame ht hc hg, if_pos (by simp [hst, hk]), noteStep, goOn_done_last hnoted ha hl,
    clearAwait_syncOpen, clearAwait_modCtx, clearAwait_clearAwait]

/-- R124: no reply came in a delivery. -/
theorem timerExpiry_delivering (hg : c.stage = .frame) (hd : c.delivering = true) : timerExpiry n s =
    endRun n (if c.abortPending then .aborted (some .timeout) else .timeout)
      ((clearAwait n s).modDelivery n fun d => { d with phase := .unanswered, reason := none }) := by
  have hstop : ¬(c.current.map Step.continues) = some true := by
    intro h
    obtain ⟨st, hst, hk⟩ := Option.map_eq_some_iff.1 h
    rcases isLoad_of_delivering hst hd with h | h <;> simp [Step.continues, h] at hk
  rw [timerExpiry_frame ht hc hg, if_neg hstop, failFrame_delivering (by rwa [clearAwait_ctxAt]) hd,
    clearAwait_clearAwait, goOn_fin]
  rfl

end

/-- R110: a HELD lane that was told sends its reservation again. -/
theorem retryReservation_told {s : State} {n : Nat} (hs : (s.laneAt n).state = .held) (ht : n ∈ s.records.told) :
    retryReservation n s =
      startAt n { s with records := { s.records with told := s.records.told.filter (· ≠ n) } } := by
  rw [retryReservation, if_pos (by simp [hs, ht])]

/-- R110: and stays HELD, with no second LANE-HELD, where no place is free. -/
theorem retryReservation_full {s : State} {n : Nat} {q : RunRequest} {rest : List RunRequest}
    (hs : (s.laneAt n).state = .held) (ht : n ∈ s.records.told) (hq : (s.laneAt n).queue = q :: rest)
    (hfull : s.records.entries.length = 48) (hf : s.records.fullReported = true) :
    retryReservation n s = { s with records := { s.records with
      waiting := insertAsc n s.records.waiting, told := s.records.told.filter (· ≠ n) } } := by
  rw [retryReservation_told hs ht]
  refine Eq.trans (startAt_full hq hfull) (Eq.trans (holdLane_held hs hf) ?_)
  simp

theorem retryReservation_untold {s : State} {n : Nat} (h : (s.laneAt n).state ≠ .held ∨ n ∉ s.records.told) :
    retryReservation n s = s := by
  rw [retryReservation, if_neg (by simpa [imp_iff_not_or] using h)]

/-- Settles O43: the expiry by the stage of the run (`timerExpiry_awaiting` and the lemmas after it), and the retry. -/
theorem laneTimers : Obligations.LaneTimers := by
  rintro s f n c rfl
  have hstep : exec (.stepTimerExpiry f) s = .next (pump (timerExpiry f s)) := rfl
  have hretry : exec (.reservationRetry f) s = .next (pump (retryReservation f s)) := rfl
  rw [hstep, hretry]
  refine ⟨fun ht => ?_, fun ht hc u hu => ?_, fun hs htold => ⟨fun q rest hq hfull hreported => ?_, ?_⟩, fun h => ?_⟩
  · rw [timerExpiry_stopped ht]
  · replace hu : u = clearAwait f s := hu
    subst hu
    refine ⟨fun hg => ?_, fun hg ha hl => ?_, fun hg hd st hst => ⟨fun hk => ?_, fun hk ha hl => ?_⟩, fun hg hd => ?_⟩
    · rw [timerExpiry_awaiting ht hc hg]
    · rw [timerExpiry_pausing ht hc hg, goOn_done_last (by rwa [clearAwait_ctxAt]) ha hl, clearAwait_clearAwait]
    · rw [timerExpiry_fails ht hc hg hd hst hk]
    · rw [timerExpiry_notes ht hc f.isLt hg hst hk ha hl]
    · rw [timerExpiry_delivering ht hc hg hd]
  · rw [retryReservation_full hs htold hq hfull hreported]
  · rw [retryReservation_told hs htold]
  · rw [retryReservation_untold h]

/-! ### The cradle (R115, R126, R138, R139): O45 -/

section
variable {s : State} {n : Nat}

theorem contactChange_same {b : Bool} (h : (s.lineAt n).contact = b) : contactChange n b s = s := if_pos h

theorem contactChange_up {b : Bool} (h : (s.lineAt n).contact ≠ b) (hp : s.power = true) (hs : s.startUp = none) :
    contactChange n b s = s.setLine n { s.lineAt n with
      contact := b, settle := if b = (s.lineAt n).presence then none else some 50 } := by
  rw [contactChange, if_neg h, if_neg (by simp [hp, hs])]
  rfl

theorem settleExpiry_stopped (h : (s.lineAt n).settle = none) : settleExpiry n s = s := by
  simp only [settleExpiry, h]

/-- R138: presence follows the contact, and the lane is given the arrival. -/
theorem settleExpiry_arrival (h : (s.lineAt n).settle.isSome) (hb : (s.lineAt n).contact = true) :
    settleExpiry n s = terminalArrived n (s.modLine n fun l => { l with settle := none, presence := true }) := by
  obtain ⟨t, h⟩ := Option.isSome_iff_exists.1 h
  simp only [settleExpiry, h, hb, if_true]

/-- R138: or the removal. -/
theorem settleExpiry_removal (h : (s.lineAt n).settle.isSome) (hb : (s.lineAt n).contact = false) :
    settleExpiry n s = terminalRemoved n (s.modLine n fun l => { l with settle := none, presence := false }) := by
  obtain ⟨t, h⟩ := Option.isSome_iff_exists.1 h
  simp only [settleExpiry, h, hb, Bool.false_eq_true, if_false]

theorem terminalArrived_idle (h : s.ctxAt n = none) : terminalArrived n s = s := by
  simp only [terminalArrived, h]

variable {c : RunContext}

theorem terminalArrived_other (hc : s.ctxAt n = some c) (h : c.stage ≠ .awaiting ∨ (s.lineAt n).served = true) :
    terminalArrived n s = s := by
  simp only [terminalArrived, hc]
  refine if_neg ?_
  rcases h with h | h <;> simp [h]

/-- R115: an arrival at AWAIT. -/
theorem terminalArrived_awaiting (hc : s.ctxAt n = some c) (hg : c.stage = .awaiting)
    (hserved : (s.lineAt n).served = false) : terminalArrived n s = goOn n (s, .done) := by
  simp only [terminalArrived, hc]
  exact if_pos (by simp [hg, hserved])

theorem terminalRemoved_idle (h : s.ctxAt n = none) :
    terminalRemoved n s = s.modLine n fun l => { l with served := false } := by
  simp only [terminalRemoved, ctxAt_modLine, h]

theorem terminalRemoved_awaiting (hc : s.ctxAt n = some c) (hg : c.stage = .awaiting) :
    terminalRemoved n s = s.modLine n fun l => { l with served := false } := by
  simp only [terminalRemoved, ctxAt_modLine, hc, hg, if_true]

/-- R126: a removal at any other step. -/
theorem terminalRemoved_ends (hc : s.ctxAt n = some c) (hg : c.stage ≠ .awaiting) : terminalRemoved n s =
    endRun n .removed (endDelivery n .unanswered none (s.modLine n fun l => { l with served := false })) := by
  simp only [terminalRemoved, ctxAt_modLine, hc, hg, if_false]

end

/-- Settles O45: the contact, and the settle's expiry as an arrival or a removal, by where the run stands. -/
theorem cradle : Obligations.Cradle := by
  rintro s f n x closed rfl rfl
  have hn := f.isLt
  have hcontact : exec (.cradleContactChange f closed) s = .next (pump (contactChange f closed s)) := rfl
  have hsettle : exec (.settleTimerExpiry f) s = .next (pump (settleExpiry f s)) := rfl
  rw [hcontact, hsettle]
  refine ⟨fun h => ?_, fun h hp hs => ?_, fun h => ?_, fun h hb u hu => ?_, fun h hb u hu => ?_⟩
  · rw [contactChange_same h]
  · rw [contactChange_up h hp hs]
  · rw [settleExpiry_stopped h]
  · replace hu : u = s.modLine f fun l => { l with settle := none, presence := true } := hu
    have hctx : u.ctxAt f = s.ctxAt f := by rw [hu, ctxAt_modLine]
    have hserved : (u.lineAt f).served = (s.lineAt f).served := by rw [hu, lineAt_modLine, if_pos ⟨rfl, hn⟩]
    rw [settleExpiry_arrival h hb, ← hu]
    refine ⟨fun hc => ?_, fun c hc => ?_⟩ <;> rw [← hctx] at hc
    · rw [terminalArrived_idle hc]
    · rw [← hserved]
      refine ⟨fun h => ?_, fun hg hs ha hl => ?_⟩
      · rw [terminalArrived_other hc h]
      · rw [terminalArrived_awaiting hc hg hs, goOn_done_last hc ha hl.ge]
        rfl
  · -- `v` is the state in which TERMINAL-REMOVED is handed over
    obtain ⟨v, hv⟩ : ∃ v, v = s.modLine f fun l => { l with settle := none, presence := false } := ⟨_, rfl⟩
    have hctx : v.ctxAt f = s.ctxAt f := by rw [hv, ctxAt_modLine]
    have huv : u = v.modLine f fun l => { l with served := false } := by
      rw [hu, hv, modLine_modLine]
      rfl
    rw [settleExpiry_removal h hb, ← hv]
    refine ⟨fun hc => ?_, fun c hc => ?_⟩ <;> rw [← hctx] at hc
    · rw [terminalRemoved_idle hc, huv]
    · have huc : u.ctxAt f = some c := by rwa [huv, ctxAt_modLine]
      refine ⟨fun hg => ?_, fun hg hd => ?_, fun hg hd => ?_⟩
      · rw [terminalRemoved_awaiting hc hg, huv]
      · rw [terminalRemoved_ends hc hg, ← huv, endDelivery_quiet huc hd]
      · rw [terminalRemoved_ends hc hg, ← huv, endDelivery_delivering huc hd]

/-! ### What a run end leaves (R129 to R131): O41 -/

section
variable {s : State} {n : Nat} {c : RunContext} (stop : RunStop) (hc : s.ctxAt n = some c)
include hc

/-- R129 step 3. -/
theorem runEnd_keys : (runEnd n stop s).keys = (releaseLane n s).keys := by
  simp [runEnd, hc, releaseLane]

/-- R129 step 4, R165, R166: the entries of the Record Queue. -/
theorem runEnd_rewrites : ∃ voided, (runEnd n stop s).records.entries = rewriteOpen n (fun r =>
    { c.enter r with closed := true, outcome := some stop.1, failStep := failStepOf stop.1 stop.2 c, voided := voided })
      s.records.entries := by
  have hstop : (stopRun n s).ctxAt n = some c ∨
      (stopRun n s).ctxAt n = some { c with heldKey := none, header := none } := by
    have hctx : (s.laneAt n).ctx = some c := hc
    rw [State.ctxAt, stopRun_laneAt]
    split
    · exact .inr (by rw [hctx]; rfl)
    · exact .inl hctx
  refine ⟨(returnAll c.deliveries (stopRun n s)).1, ?_⟩
  have hsync : syncOpen n (stopRun n s) = (stopRun n s).modOpen n c.enter := by
    rcases hstop with h | h
    · rw [syncOpen_some h]
    · rw [syncOpen_some h]
      rfl
  rw [runEnd_records stop hc, closeRecord, hsync, modOpen_entries, modOpen_entries, stopRun_records]
  exact rewriteOpen_rewriteOpen _ _ fun _ => rfl

end

/-- R13: a released lane has no binding. -/
theorem releaseLane_unbound {s : State} {n m : Nat} {r : SlotRec} (hr : (releaseLane n s).slotAt m = some r) :
    ∀ b ∈ r.bound, b.lane ≠ n := by
  have hslot : (releaseLane n s).slotAt m = releaseSlot n (s.slotAt m) :=
    look_map s.keys.slots (releaseSlot n) none m
  rw [hslot, releaseSlot] at hr
  obtain ⟨k, -, rfl⟩ := Option.map_eq_some_iff.1 hr
  intro b hb
  simpa using (List.mem_filter.1 hb).2

/-- Settles O41: the parts of the state that run end touches, each by its own lemma, and all else by `runEnd_outside`. -/
theorem runEndLeaves : Obligations.RunEndLeaves := by
  intro s n c o k hn hc
  obtain ⟨voided, hentries⟩ := runEnd_rewrites (o, k) hc
  have hout := runEnd_outside n (o, k) s
  simp only [State.outside, Prod.mk.injEq] at hout
  obtain ⟨hpanel, hauth, hasm, hwindows, hroute, hlatch, -, hmode, -⟩ := hout
  refine ⟨_, rfl, ?_, ?_, fun m hm => ⟨?_, ?_⟩, fun m r hr => ?_, ?_, ?_, fun i r hr => ⟨fun h => ?_, fun hopen hlane => ?_⟩,
    hwindows, hroute, hauth, hasm, hpanel, hmode, hlatch⟩
  · rw [runEnd_laneAt _ hc, if_pos ⟨rfl, hn⟩]
  · rw [runEnd_lineAt _ hc, if_pos ⟨rfl, hn⟩]
    cases c.frameSent && (s.lineAt n).presence <;> simp
  · rw [runEnd_laneAt _ hc, if_neg fun h => hm h.1.symm]
  · rw [runEnd_lineAt _ hc, if_neg fun h => hm h.1.symm]
  · rw [State.slotAt, runEnd_keys _ hc] at hr
    exact releaseLane_unbound hr
  · rw [runEnd_cipher _ hc]
    rfl
  · rw [hentries, rewriteOpen, List.length_map]
  · rw [hentries]
    refine rewriteOpen_other hr ?_
    rcases h with h | h <;> simp [isOpenOf, h]
  · refine ⟨voided, ?_⟩
    rw [hentries, rewriteOpen_open hr (by simp [isOpenOf, hopen, hlane])]
    rfl

/-! ### A run start that finds a place (R110 to R112, R115): O39 -/

theorem modOpen_modOpen {s : State} {n : Nat} {f : Record → Record} (g : Record → Record)
    (h : ∀ r, isOpenOf n (f r) = isOpenOf n r) :
    (s.modOpen n f).modOpen n g = s.modOpen n fun r => g (f r) :=
  congrArg (fun l => { s with records := { s.records with entries := l } }) (rewriteOpen_rewriteOpen g _ h)

/-! A change of a lane commutes with those of the plans and of the OPEN entries. -/

theorem modLane_setPlan {s : State} {n p : Nat} {x : Plan} {f : Lane → Lane} :
    (s.setPlan p x).modLane n f = (s.modLane n f).setPlan p x := rfl

theorem modLane_modOpen {s : State} {m n : Nat} {g : Record → Record} {f : Lane → Lane} :
    (s.modOpen m g).modLane n f = (s.modLane n f).modOpen m g := rfl

/-- R165: what the lane writes last stands in its OPEN entry. -/
theorem syncOpen_modCtx_syncOpen {s : State} {n : Nat} {c : RunContext} (f : RunContext → RunContext) (hn : n < 8)
    (hc : s.ctxAt n = some c) : syncOpen n ((syncOpen n s).modCtx n f) = syncOpen n (s.modCtx n f) := by
  have hsame : ((s.modOpen n c.enter).modCtx n f) = (s.modCtx n f).modOpen n c.enter := modLane_modOpen
  rw [syncOpen_some (ctxAt_modCtx_self s n hn hc),
    syncOpen_some (ctxAt_modCtx_self (syncOpen n s) n hn (by rwa [syncOpen_ctxAt])), syncOpen_some hc, hsame]
  exact modOpen_modOpen _ fun _ => rfl

section
variable {s : State} {n : Nat}

/-- R112: a version without LOAD steps binds no key and reserves no number. -/
theorem bindKeys_noLoad {c : RunContext} {steps : List Step} (old : List Delivery) (hn : n < 8) (hc : s.ctxAt n = some c)
    (h : loadsOf steps = []) :
    bindKeys n steps old s = (syncOpen n (s.modCtx n fun c => { c with deliveries := old }), none) := by
  have hsync := syncOpen_modCtx_syncOpen (fun c => { c with deliveries := old }) hn
    (ctxAt_modCtx_self (f := fun c => { c with deliveries := old }) s n hn hc)
  rw [modCtx_modCtx] at hsync
  simpa [bindKeys, bindSlots, bindSteps, newDeliveries, issueWants, reserveIssue, reserveTest, reserveAll, h] using hsync

theorem loadsOf_eq_nil {steps : List Step} (h : ∀ x ∈ steps, x.kind.isLoad = false) : loadsOf steps = [] := by
  rw [loadsOf, List.filter_eq_nil_iff]
  rintro ⟨i, x⟩ hx
  obtain ⟨⟨y, j⟩, hy, heq⟩ := List.mem_map.1 hx
  cases heq
  simpa using h y (List.fst_mem_of_mem_zipIdx hy)

/-- R115: AWAIT at an empty cradle. -/
theorem beginStep_await {c : RunContext} {st : Step} (hn : n < 8) (hc : s.ctxAt n = some c) (hst : c.current = some st)
    (hk : st.kind = .await) (hp : (s.lineAt n).presence = false) : beginStep n s =
      (((s.modCtx n fun c => { c with waits := 0, stage := .awaiting }).setTimer n
        (if st.limit.getD 0 = 0 then none else some (st.limit.getD 0))), .wait) := by
  have hc' : (s.modCtx n fun c => { c with waits := 0 }).ctxAt n = some { c with waits := 0 } :=
    ctxAt_modCtx_self s n hn hc
  have hst' : ({ c with waits := 0 } : RunContext).current = some st := hst
  have hp' : ((s.modCtx n fun c => { c with waits := 0 }).lineAt n).presence = false := hp
  simp only [beginStep, hc', hst', hk, beginAwait, hp', Bool.false_and, Bool.false_eq_true, if_false, State.setStage,
    modCtx_modCtx]

theorem modOpen_of_entries {f : Record → Record} {l : List Record} (h : rewriteOpen n f s.records.entries = l) :
    s.modOpen n f = { s with records := { s.records with entries := l } } := by
  subst h
  rfl

/-- R111: the OPEN entry stands at the tail of a queue that holds no other of the lane. -/
theorem rewriteOpen_tail {f : Record → Record} {l : List Record} {r : Record}
    (h : ∀ x ∈ l, x.lane = n → x.closed = true) (hr : isOpenOf n r = true) :
    rewriteOpen n f (l ++ [r]) = l ++ [f r] := by
  have hl : rewriteOpen n f l = l := by
    refine (List.map_congr_left fun x hx => ?_).trans (List.map_id l)
    refine if_neg ?_
    by_cases hlane : x.lane = n
    · simp [isOpenOf, h x hx hlane]
    · simp [isOpenOf, hlane]
  rw [rewriteOpen, List.map_append, ← rewriteOpen, hl, List.map_singleton, if_pos hr]

variable {q : RunRequest} {v : Version}

theorem openRun_ctxAt (hn : n < 8) : (openRun n q s).ctxAt n = some (newContext q ((s.laneAt n).ordinal + 1)) := by
  rw [openRun, State.ctxAt, laneAt_modLane, if_pos ⟨rfl, hn⟩]

/-- R87: a version bind request of a run start. -/
theorem bindVersion_installed {p : Nat} (h : (s.planAt p).installed = some v) : bindVersion n p false s =
    .ok v (s.setPlan p { s.planAt p with users := insertAsc n (s.planAt p).users }) := by
  unfold bindVersion
  dsimp only
  split
  · rename_i hnone
    cases hnone.symm.trans h
  · rename_i w hw
    cases hw.symm.trans h
    rfl

/-- R111, R112: a new run that has bound its version `v`, which has no LOAD step; its OPEN entry is still to be written. -/
def withVersion (n : Nat) (q : RunRequest) (v : Version) (s : State) : State :=
  ((openRun n q s).setPlan q.plan { s.planAt q.plan with users := insertAsc n (s.planAt q.plan).users }).modCtx n
    fun c => { c with version := some v.number, steps := v.steps, deliveries := [] }

/-- R113: its run context. -/
def versionContext (q : RunRequest) (v : Version) (ordinal : BitVec 16) : RunContext :=
  { newContext q ordinal with version := some v.number, steps := v.steps, deliveries := [] }

theorem withVersion_ctxAt (hn : n < 8) :
    (withVersion n q v s).ctxAt n = some (versionContext q v ((s.laneAt n).ordinal + 1)) :=
  ctxAt_modCtx_self _ n hn (openRun_ctxAt hn)

/-- R112: a run start whose installed version has no LOAD step comes to its step 0. -/
theorem startRun_noLoad (hn : n < 8) (hv : (s.planAt q.plan).installed = some v)
    (hload : ∀ x ∈ v.steps, x.kind.isLoad = false) :
    startRun n q s = proceed stepFuel n (beginStep n (syncOpen n (withVersion n q v s))) := by
  obtain ⟨u, hu⟩ : ∃ u, u = (openRun n q s).setPlan q.plan { s.planAt q.plan with
      users := insertAsc n (s.planAt q.plan).users } := ⟨_, rfl⟩
  have hbind : bindVersion n q.plan false (openRun n q s) = .ok v u := by
    rw [hu]
    exact bindVersion_installed (s := openRun n q s) hv
  have huc : u.ctxAt n = some (newContext q ((s.laneAt n).ordinal + 1)) := by
    rw [hu]
    exact openRun_ctxAt hn
  have hversion := ctxAt_modCtx_self (f := fun c => { c with version := some v.number, steps := v.steps }) u n hn huc
  simp only [startRun, hbind]
  rw [bindKeys_noLoad [] hn (by rw [syncOpen_ctxAt]; exact hversion) (loadsOf_eq_nil hload),
    syncOpen_modCtx_syncOpen _ hn hversion, modCtx_modCtx, hu]
  rfl

/-- R110 to R112, R115: a run start that finds a place, as far as its AWAIT at an empty cradle. -/
theorem startAt_await {rest : List RunRequest} {st : Step} {more : List Step} (hn : n < 8)
    (hq : (s.laneAt n).queue = q :: rest) (hroom : s.records.entries.length < 48)
    (hv : (s.planAt q.plan).installed = some v) (hsteps : v.steps = st :: more) (hk : st.kind = .await)
    (hmore : ∀ x ∈ more, x.kind.isLoad = false) (hp : (s.lineAt n).presence = false) :
    startAt n s = ((syncOpen n (withVersion n q v s)).modCtx n fun c =>
      { c with waits := 0, stage := .awaiting }).setTimer n
        (if st.limit.getD 0 = 0 then none else some (st.limit.getD 0)) := by
  have hload : ∀ x ∈ v.steps, x.kind.isLoad = false := by
    rw [hsteps]
    exact List.forall_mem_cons.2 ⟨by rw [hk]; rfl, hmore⟩
  have hst : (versionContext q v ((s.laneAt n).ordinal + 1)).current = some st := by
    rw [RunContext.current, versionContext, hsteps]
    rfl
  have hplace : placeFree s = true := by simp [placeFree, Config.recordPlaces, hroom]
  have hline : ((syncOpen n (withVersion n q v s)).lineAt n).presence = false := by
    rw [State.lineAt, syncOpen_lines]
    exact hp
  rw [startAt, Machine.runStart, hq]
  dsimp only
  rw [if_pos hplace, startRun_noLoad hn hv hload,
    beginStep_await hn (by rw [syncOpen_ctxAt, withVersion_ctxAt hn]) hst hk hline]
  rfl

end

namespace Settled

/-- Settles O39: the run start up to its AWAIT (`startAt_await`), and what the changes of the lane and of its OPEN entry
come to. -/
theorem runStart : Obligations.RunStart := by
  rintro s n q rest v st more lim hn hq hroom hv hsteps hk rfl hmore hp hopen -
  have hentries := rewriteOpen_tail (n := n) (f := (versionContext q v ((s.laneAt n).ordinal + 1)).enter)
    (r := openRecord n q ((s.laneAt n).ordinal + 1)) hopen (by simp [isOpenOf, openRecord])
  rw [startAt_await hn hq hroom hv hsteps hk hmore hp, syncOpen_some (withVersion_ctxAt hn), withVersion, openRun]
  simp only [State.setTimer, State.modCtx, modLane_modOpen, modLane_setPlan, modLane_modLane]
  exact (modOpen_of_entries hentries).trans rfl

end Settled

/-! ## The lanes' requests (R107 to R110, R127, R135, R143, R148): O38, O40, O42 -/

/-! ### QUEUE-RUN -/

/-- R109: a request at the tail of the lane's queue. -/
def State.enqueue (s : State) (n : Nat) (q : RunRequest) : State :=
  s.setLane n { s.laneAt n with queue := (s.laneAt n).queue ++ [q] }

section
variable {s : State} {n p : Nat} {rep rt : Option Nat}

/-- R109: the ranges. -/
theorem queueRun_range (hn : n < 10 ^ 8) (hp : p < 10 ^ 8) (hrep : rep.getD 1 < 10 ^ 8) (hrt : rt.getD 0 < 10 ^ 8)
    (h : 8 ≤ n ∨ 16 ≤ p ∨ 65535 < rep.getD 1 ∨ 65535 < rt.getD 0) :
    queueRun (.val n) (.val p) (optArg rep) (optArg rt) s = refuse .range s := by
  rw [queueRun, num_val hn, num_val hp, optNum_optArg hrep, optNum_optArg hrt]
  refine if_pos ?_
  simp only [Bool.or_eq_true, decide_eq_true_eq, or_assoc]
  exact h

/-- R109: the refusals of a request in range, and what it does. -/
theorem queueRun_inRange {q : RunRequest} (hn : n < 8) (hp : p < 16) (hrep : rep.getD 1 ≤ 65535)
    (hrt : rt.getD 0 ≤ 65535) (hq : q = { plan := p, rep := rep.getD 1, tag := rt.getD 0, iteration := 1 }) :
    queueRun (.val n) (.val p) (optArg rep) (optArg rt) s =
      if (s.laneAt n).state = .offline then refuse .laneOffline s
      else if (s.planAt p).installed.isNone then refuse .noPlan s
      else if Config.queueMax ≤ (s.laneAt n).queue.length then refuse .queueFull s
      else (.ok [fLane n, .field "QUEUED" (.num ((s.laneAt n).queue.length + 1))],
        if (s.laneAt n).state = .idle then startAt n (s.enqueue n q) else s.enqueue n q) := by
  have hrange : ¬(decide (8 ≤ n) || decide (16 ≤ p) || decide (Config.word16Max < rep.getD 1) ||
      decide (Config.word16Max < rt.getD 0)) = true := by
    have hmax : Config.word16Max = 65535 := rfl
    simp only [Bool.or_eq_true, decide_eq_true_eq]
    omega
  have hlen : ((s.enqueue n q).laneAt n).queue.length = (s.laneAt n).queue.length + 1 := by
    rw [State.enqueue, laneAt_setLane, if_pos ⟨rfl, hn⟩, List.length_append, List.length_singleton]
  rw [queueRun, num_val (by omega), num_val (by omega), optNum_optArg (v := 1) (by omega),
    optNum_optArg (v := 0) (by omega)]
  dsimp only
  rw [if_neg hrange, ← hlen, hq]
  rfl

end

/-- R110, R164: run start on a lane that is not HELD yet, with the Record Queue full and reported. -/
theorem startAt_held {s : State} {n : Nat} {l : Lane} {q : RunRequest} {rest : List RunRequest} (hn : n < 8)
    (hq : l.queue = q :: rest) (hs : l.state ≠ .held) (hfull : s.records.entries.length = 48)
    (hf : s.records.fullReported = true) : startAt n (s.setLane n l) = raiseNotice (laneHeld n q)
      { s.setLane n { l with state := .held } with records := { s.records with
        waiting := insertAsc n s.records.waiting, told := s.records.told.filter (· ≠ n) } } := by
  obtain ⟨u, hu⟩ : ∃ u, u = s.setLane n l := ⟨_, rfl⟩
  have hlane : u.laneAt n = l := by rw [hu, laneAt_setLane, if_pos ⟨rfl, hn⟩]
  have hrecords : u.records = s.records := by rw [hu]; rfl
  have hheld : (u.modLane n fun l => { l with state := .held }) = s.setLane n { l with state := .held } := by
    rw [State.modLane, hlane, hu, State.setLane, State.setLane, put_put]
    rfl
  have hlink : (raiseNotice (laneHeld n q) (s.setLane n { l with state := .held })).link =
      (raiseNotice (laneHeld n q) { s.setLane n { l with state := .held } with records := { s.records with
        waiting := insertAsc n s.records.waiting, told := s.records.told.filter (· ≠ n) } }).link :=
    raiseNotice_link_congr rfl rfl
  rw [← hu, startAt_full (by rw [hlane, hq]) (by rw [hrecords]; exact hfull), holdLane, if_neg (by rwa [hlane]), hheld,
    refuseRecord_reported (by rw [raiseNotice_records]; exact hf), raiseNotice_records,
    raiseNotice_eq, hlink, raiseNotice_eq _ (State.mk ..)]
  rfl

namespace Settled

/-- Settles O38: the refusals by `queueRun_inRange`, and on an IDLE lane the run start with a place or without. -/
theorem queueRun : Obligations.QueueRun := by
  intro s tag n p rep rt hs hrep hrt hn hp
  have queueOk {fields t} := operator_ok (tag := tag) (fields := fields) (t := t) hs
    (i := .queueRun tag (.val n) (.val p) (optArg rep) (optArg rt))
    (Machine.queueRun (.val n) (.val p) (optArg rep) (optArg rt)) rfl
  have queueErr {c} := operator_err (tag := tag) (c := c) hs
    (i := .queueRun tag (.val n) (.val p) (optArg rep) (optArg rt))
    (Machine.queueRun (.val n) (.val p) (optArg rep) (optArg rt)) rfl
  refine ⟨fun h => queueErr (queueRun_range hn hp hrep hrt h), fun hn hp hrep hrt l q hl hq => ?_⟩
  have hrun := queueRun_inRange (s := heard s) hn hp hrep hrt hq
  rw [heard_laneAt, heard_planAt, ← hl] at hrun
  refine ⟨fun hoff => queueErr ?_, fun hoff hplan => queueErr ?_, fun hoff hplan => ⟨fun hfull => queueErr ?_,
    fun hroom hidle => queueOk ?_, fun hempty hidle hplace => queueOk ?_, fun hempty hidle hplace hreported => queueOk ?_⟩⟩
  · rw [hrun, if_pos hoff]; rfl
  · rw [hrun, if_neg hoff, if_pos (by rw [hplan]; rfl)]; rfl
  all_goals rw [if_neg hoff, if_neg (by simpa [Option.isSome_iff_ne_none] using hplan)] at hrun
  · rw [hrun, if_pos (show Config.queueMax ≤ l.queue.length from hfull)]; rfl
  · rw [hrun, if_neg (show ¬Config.queueMax ≤ l.queue.length from Nat.not_le.2 hroom), if_neg hidle, hl]
    rfl
  all_goals
    have hqueue : (heard s).enqueue n q = (heard s).setLane n { l with queue := [q] } := by
      rw [State.enqueue, heard_laneAt, ← hl, hempty, List.nil_append]
    rw [if_neg (by rw [hempty]; decide), if_pos hidle, hqueue, hempty] at hrun
  · exact hrun
  · have hheld := startAt_held (s := heard s) (l := { l with queue := [q] }) hn rfl (by rw [hidle]; decide) hplace
      hreported
    rw [hrun, hheld, laneHeld, hq]
    rfl

end Settled

/-! ### ABORT-LANE -/

section
variable {s : State} {n : Nat} {flush : Option Unit} {q : List RunRequest}

/-! R127: FLUSH acts first, which leaves `t`; then the state of the lane decides. -/

section
variable {t u : State} {w : String} (hn : n < 8) (hq : q = flushQueue flush.isSome (s.laneAt n).queue)
  (ht : t = s.setLane n { s.laneAt n with queue := q })
include hn hq ht

theorem abortLane_none (h : (s.laneAt n).state = .offline ∨ (s.laneAt n).state = .idle) :
    abortLane (.val n) (optArg flush) s =
      (.ok [fLane n, .field "RUN" (.word "NONE"), .field "FLUSHED" (.num ((s.laneAt n).queue.length - q.length))],
        t) := by
  rw [abortLane, num_val (by omega), opt_optArg, below_lt hn]
  dsimp only
  rw [← hq]
  rcases h with h | h <;> simp only [h] <;> rw [ht] <;> rfl

theorem abortLane_held (h : (s.laneAt n).state = .held) : abortLane (.val n) (optArg flush) s =
    (.ok [fLane n, .field "RUN" (.word "HELD-REMOVED"),
      .field "FLUSHED" (.num ((s.laneAt n).queue.length - q.length))], abortHeld n t) := by
  rw [abortLane, num_val (by omega), opt_optArg, below_lt hn]
  dsimp only
  rw [← hq]
  simp only [h]
  rw [ht]
  rfl

theorem abortLane_running (h : (s.laneAt n).state = .running) (hrun : abortRun n t = (w, u)) :
    abortLane (.val n) (optArg flush) s =
      (.ok [fLane n, .field "RUN" (.word w), .field "FLUSHED" (.num ((s.laneAt n).queue.length - q.length))], u) := by
  have hmod : (s.modLane n fun l => { l with queue := q }) = t := ht.symm
  rw [abortLane, num_val (by omega), opt_optArg, below_lt hn]
  dsimp only
  rw [← hq]
  simp only [h, hmod, hrun]

end

/-- R127: the head of a HELD lane goes, and no request is left. -/
theorem abortHeld_alone {l : Lane} (hn : n < 8) (hq : l.queue.length ≤ 1) : abortHeld n (s.setLane n l) =
    { s.setLane n { l with queue := [], state := .idle } with records := (leaveWaiting n s).records } := by
  have htail : l.queue.tail = [] := List.length_eq_zero_iff.1 (by rw [List.length_tail]; omega)
  have hmod (f : Lane → Lane) : (leaveWaiting n (s.setLane n l)).modLane n f = (leaveWaiting n s).setLane n (f l) := by
    have hlane : (leaveWaiting n (s.setLane n l)).laneAt n = l := (laneAt_setLane s n n l).trans (if_pos ⟨rfl, hn⟩)
    rw [State.modLane, hlane]
    exact congrArg (fun t => { leaveWaiting n s with lanes := t }) (put_put ..)
  have hempty : (((leaveWaiting n (s.setLane n l)).modLane n fun l =>
      { l with queue := l.queue.tail }).laneAt n).queue = [] := by
    rw [hmod, laneAt_setLane, if_pos ⟨rfl, hn⟩, htail]
  rw [abortHeld]
  dsimp only
  rw [if_pos (by rw [hempty]; rfl), modLane_modLane, hmod, htail]
  rfl

variable {c : RunContext} (hc : s.ctxAt n = some c)
include hc

/-- R128: a run at a safe point ends. -/
theorem abortRun_ends (ha : c.abortPending = false) (hsafe : atSafePoint n c s = true) :
    abortRun n s = ("ABORTED", endRun n (.aborted none) s) := by
  simp only [abortRun, hc, ha, hsafe, Bool.not_false, Bool.true_and, if_true]

/-- R128: any other goes on with the flag set. -/
theorem abortRun_pends (h : c.abortPending = true ∨ atSafePoint n c s = false) :
    abortRun n s = ("ABORTING", s.modCtx n fun c => { c with abortPending := true }) := by
  have hnot : ¬(!c.abortPending && atSafePoint n c s) = true := by rcases h with h | h <;> simp [h]
  simp only [abortRun, hc, if_neg hnot]

omit hc

theorem atSafePoint_eq_true : atSafePoint n c s = true ↔ c.stage = .awaiting ∨ c.stage = .pausing ∨
    (c.stage = .frame ∧ c.delivering = false) ∨ (c.stage = .compute ∧ (look s.cipher.waiting none n).isSome) := by
  cases h : c.stage <;> simp [atSafePoint, h, isWaiting]

theorem atSafePoint_eq_false : atSafePoint n c s = false ↔
    (c.stage = .frame ∧ c.delivering = true) ∨ (c.stage = .compute ∧ look s.cipher.waiting none n = none) := by
  cases h : c.stage <;> simp [atSafePoint, h, isWaiting]

end

namespace Settled

/-- Settles O40: ABORT-LANE by the state of the lane (`abortLane_none` and the lemmas after it), on a RUNNING lane by
whether the run stands at a safe point. -/
theorem abortLane : Obligations.AbortLane := by
  rintro s tag n flush l q k hs hn rfl hq rfl
  have abortOk {fields t} := operator_ok (tag := tag) (fields := fields) (t := t) hs
    (i := .abortLane tag (.val n) (optArg flush)) (Machine.abortLane (.val n) (optArg flush)) rfl
  refine ⟨fun h => abortOk (abortLane_none hn hq rfl h), fun h hlen => abortOk ?_, fun c h hc => ?_⟩
  · exact (abortLane_held (s := heard s) hn hq rfl h).trans (by rw [abortHeld_alone hn hlen]; rfl)
  · -- `u` is the state that FLUSH leaves
    obtain ⟨u, hu⟩ : ∃ u, u = (heard s).setLane n { s.laneAt n with queue := q } := ⟨_, rfl⟩
    have hlane : u.laneAt n = { s.laneAt n with queue := q } := by rw [hu, laneAt_setLane, if_pos ⟨rfl, hn⟩]
    have huc : u.ctxAt n = some c := by rw [State.ctxAt, hlane]; exact hc
    have hcipher : u.cipher = s.cipher := by rw [hu]; rfl
    have hrunning {w t} (hrun : abortRun n u = (w, t)) :=
      abortOk (abortLane_running (s := heard s) hn hq hu h hrun)
    refine ⟨fun hpends => ?_, fun ha hsafe => ?_⟩
    · refine (hrunning (abortRun_pends huc (by rwa [atSafePoint_eq_false, hcipher]))).trans ?_
      rw [State.modCtx, State.modLane, hlane, hu, hc, State.setLane, State.setLane, put_put]
      rfl
    · exact (hrunning (abortRun_ends huc ha (by rwa [atSafePoint_eq_true, hcipher]))).trans (by rw [hu]; rfl)

end Settled

/-! ### SET-LANE, READ-LANE and CLEAR-COUNTERS -/

theorem rate?_bps (r : Rate) : rate? r.bps = some r := by cases r <;> rfl

theorem rate?_other {v : Nat} (h : v ∉ [9600, 19200, 38400, 57600, 115200]) : rate? v = none := by
  simp only [List.mem_cons, List.not_mem_nil, or_false, not_or] at h
  obtain ⟨h1, h2, h3, h4, h5⟩ := h
  rw [rate?, if_neg h1, if_neg h2, if_neg h3, if_neg h4, if_neg h5]

theorem modLine_self (s : State) (n : Nat) : (s.modLine n fun l => l) = s := by
  have h : put s.lines n (s.lineAt n) = s.lines := put_look rfl
  rw [State.modLine, State.setLine, h]

section
variable {s : State} {n : Nat} {y : Option Bool} {r : Option Nat} {p : Option Parity}

theorem modLane_modLine {f : BenchLine → BenchLine} {g : Lane → Lane} :
    (s.modLine n f).modLane n g = (s.modLane n g).modLine n f := rfl

/-- R107, R137: the lane goes OFFLINE. -/
theorem setOnline_false : setOnline n false s =
    (s.modLane n fun l => { l with online := false, state := .offline }).modLine n fun x =>
      { x with rx := .closed, gapTimer := none } := by
  unfold setOnline
  cases (s.laneAt n).state <;> rfl

/-- R107, R137: the lane comes online. The receiver opens if the lane was OFFLINE and the line does not still send
(entry 16). -/
theorem setOnline_true : setOnline n true s =
    (s.modLane n fun l => { l with online := true, state := .idle }).modLine n fun x =>
      if (s.laneAt n).state = .offline ∧ x.tx = .idle then x.hunt else x := by
  unfold setOnline
  cases (s.laneAt n).state with
  | offline => simp only [true_and, if_true]
  | idle | held | running => simp only [reduceCtorEq, false_and, if_false, if_true, modLine_self]

section
variable (hn : n < 8) (hr : r.getD 0 < 10 ^ 8)
include hn hr

/-- R135: a rate that is none of the five. -/
theorem setLane_range (h : rateGiven r (s.lineAt n).rate = none) :
    setLane (.val n) (optArg y) (optArg r) (optArg p) s = refuse .range s := by
  rw [setLane, num_val (by omega), opt_optArg, optNum_optArg hr, opt_optArg, below_lt hn]
  simp only [h]

variable {rt : Rate} (hrt : rateGiven r (s.lineAt n).rate = some rt)
include hrt

/-- R107: a lane with a run or a waiting head. -/
theorem setLane_busy (h : (s.laneAt n).state = .held ∨ (s.laneAt n).state = .running) :
    setLane (.val n) (optArg y) (optArg r) (optArg p) s = refuse .busy s := by
  rw [setLane, num_val (by omega), opt_optArg, optNum_optArg hr, opt_optArg, below_lt hn]
  simp only [hrt]
  exact if_pos (by simpa using h)

/-- R107, R135: the settings of the line, then the lane's. -/
theorem setLane_taken (h : (s.laneAt n).state = .offline ∨ (s.laneAt n).state = .idle) :
    setLane (.val n) (optArg y) (optArg r) (optArg p) s =
      (.ok [fLane n, .field "ONLINE" (yesNo (y.getD (s.laneAt n).online)), fRate rt,
          fParity (p.getD (s.lineAt n).parity)],
        if y.isSome then setOnline n (y.getD (s.laneAt n).online)
          (s.modLine n fun x => { x with rate := rt, parity := p.getD (s.lineAt n).parity })
        else s.modLine n fun x => { x with rate := rt, parity := p.getD (s.lineAt n).parity }) := by
  rw [setLane, num_val (by omega), opt_optArg, optNum_optArg hr, opt_optArg, below_lt hn]
  simp only [hrt]
  exact if_neg (by rcases h with h | h <;> simp [h])

end

/-- R108: the fields of a run. -/
theorem RunContext.items_eq (c : RunContext) : c.items =
    [.field "PLAN" (.num c.plan), .field "VERSION" (match c.version with | some v => .num v | none => .word "NONE"),
      .field "ROUTED" (match c.routed with | some (p, v) => .raw (dec p ++ txt ":" ++ dec v) | none => .word "NONE"),
      .field "STEP" (.num c.step), .field "ABORTING" (yesNo c.abortPending)] := by
  unfold RunContext.items
  cases c.version <;> cases c.routed <;> rfl

/-- R148: the fields of a line. -/
theorem BenchLine.items_eq (x : BenchLine) : x.items =
    [.field "RATE" (.num x.rate.bps), .field "PARITY" (.word x.parity.word),
      .field "PRESENCE" (.word (if x.presence then "PRESENT" else "ABSENT")), .field "SERVED" (yesNo x.served),
      .field "AWAITING" (match x.expected with | some k => .word k.word | none => .word "NONE"),
      .field "CHECKERR" (.num x.checkErr), .field "UNSOLICITED" (.num x.unsolicited)] := by
  unfold BenchLine.items
  cases x.expected <;> rfl

/-- R108, R148: READ-LANE. -/
theorem readLane_val (hn : n < 8) : readLane (.val n) s =
    (.ok ([fLane n, fState (s.laneAt n).state.word, .field "ONLINE" (yesNo (s.laneAt n).online),
        fOrdinal (s.laneAt n).ordinal, .field "REQUESTS" (.raw (commaList ((s.laneAt n).queue.map RunRequest.text)))] ++
      (((s.laneAt n).ctx.map RunContext.items).getD []) ++ (s.lineAt n).items), s) := index_val (by omega) hn

/-- R143: CLEAR-COUNTERS. -/
theorem clearCounters_val (hn : n < 8) : clearCounters (.val n) s =
    (.ok [fLane n, .field "CHECKERR" (.num (s.lineAt n).checkErr), .field "UNSOLICITED" (.num (s.lineAt n).unsolicited)],
      s.setLine n { s.lineAt n with checkErr := 0, unsolicited := 0 }) := index_val (by omega) hn

end

/-- Settles O42: SET-LANE by the rate given and the state of the lane (`setLane_range`, `setLane_busy`, `setLane_taken`),
its change of the lane by `setOnline_false` and `setOnline_true`. -/
theorem laneSettings : Obligations.LaneSettings := by
  rintro s tag n l x hs hn rfl rfl
  refine ⟨fun y r p hr => ⟨fun v hv hother => ?_, fun rt hrt => ?_⟩, ?_, ?_⟩
  · subst hv
    exact operator_err hs (setLane (.val n) (optArg y) (optArg (some v)) (optArg p)) rfl
      (setLane_range hn hr (rate?_other hother))
  · have hgiven : rateGiven r (s.lineAt n).rate = some rt := by
      rcases hrt with ⟨rfl, rfl⟩ | rfl
      · rfl
      · exact rate?_bps rt
    refine ⟨fun h => ?_, fun h l' x' hl' hx' => ?_⟩
    · exact operator_err hs (setLane (.val n) (optArg y) (optArg r) (optArg p)) rfl
        (setLane_busy (s := heard s) hn hr hgiven h)
    · refine operator_ok hs (setLane (.val n) (optArg y) (optArg r) (optArg p)) rfl
        ((setLane_taken (s := heard s) hn hr hgiven h).trans ?_)
      subst hl' hx'
      refine Prod.ext rfl ?_
      cases y with
      | none =>
        have hlane : (heard s).setLane n (s.laneAt n) = heard s := modLane_self (heard s) n
        change _ = ((heard s).setLane n (s.laneAt n)).setLine n _
        rw [hlane]
        rfl
      | some b =>
        cases b with
        | false =>
          change setOnline n false _ = _
          rw [setOnline_false, modLane_modLine, modLine_modLine]
          rfl
        | true =>
          change setOnline n true _ = _
          rw [setOnline_true, modLane_modLine, modLine_modLine]
          by_cases ho : (s.laneAt n).state = .offline ∧ (s.lineAt n).tx = .idle
          · simp only [if_pos ho]
            exact congrArg (State.setLine _ n) (if_pos ho)
          · simp only [if_neg ho]
            exact congrArg (State.setLine _ n) (if_neg ho)
  · refine operator_ok hs (readLane (.val n)) rfl ((readLane_val (s := heard s) hn).trans ?_)
    rw [heard_laneAt, BenchLine.items_eq]
    cases (s.laneAt n).ctx with
    | none => rfl
    | some c =>
      rw [Option.map_some, Option.getD_some, RunContext.items_eq]
      rfl
  · exact operator_ok hs (clearCounters (.val n)) rfl (clearCounters_val (s := heard s) hn)

end Sys2Proof.Machine

namespace Sys2Proof.Machine

/-! ## The receiver of a bench line (R136, R137, R141 to R143): O47 -/

section
variable {s : State} {n : Nat}

/-! ### What a closed receiver takes (R137) -/

theorem isOpen_iff {l : BenchLine} : l.isOpen = true ↔ l.rx ≠ .closed := decide_eq_true_iff

theorem overlongHeader_closed (h : (s.lineAt n).rx = .closed) : overlongHeader n s = s :=
  if_neg fun ho => isOpen_iff.1 ho h

theorem benchFrame_closed (h : (s.lineAt n).rx = .closed) (kind : Byte) (body : Text) (sum : BitVec 16) (bad : Bool) :
    benchFrame n kind body sum bad s = s := by
  have ho : (s.lineAt n).isOpen = false := Bool.eq_false_iff.2 fun ho => isOpen_iff.1 ho h
  simp [benchFrame, ho]

theorem benchCharacter_closed (h : (s.lineAt n).rx = .closed) (c : Byte) (pb sb : Bool) :
    benchCharacter n c pb sb s = s := by
  simp only [benchCharacter, h]

theorem gapExpiry_closed (h : (s.lineAt n).rx = .closed) : gapExpiry n s = s := by
  simp only [gapExpiry, h]

/-! ### What an open receiver does (R141, R142) -/

theorem overlongHeader_open (h : (s.lineAt n).rx ≠ .closed) : overlongHeader n s = s.modLine n BenchLine.drop :=
  if_pos (isOpen_iff.2 h)

theorem benchFrame_open (h : (s.lineAt n).rx ≠ .closed) {body : Text} (hb : body.length ≤ 200) (kind : Byte)
    (sum : BitVec 16) (bad : Bool) : benchFrame n kind body sum bad s = frameArrived n kind body sum bad s := by
  rw [benchFrame, isOpen_iff.2 h, if_neg (by simp), if_neg (show ¬ Config.bodyMax < body.length from not_lt.2 hb)]

theorem gapExpiry_collecting {chars : Text} {bad : Bool} {r : Rate} {p : Parity}
    (h : (s.lineAt n).rx = .collecting chars bad r p) (hg : (s.lineAt n).gapTimer.isSome) :
    gapExpiry n s = s.modLine n BenchLine.drop := by
  obtain ⟨t, ht⟩ := Option.isSome_iff_exists.1 hg
  simp only [gapExpiry, h, ht]

/-! R141, R142: a whole frame, by its flag and check and by the reply the line expects. -/

section
variable {kind : Byte} {body : Text} {sum : BitVec 16} {bad : Bool}

theorem frameBad_iff : frameBad kind body sum bad = true ↔ bad = true ∨ sum ≠ frameCheck kind body := by
  simp [frameBad]

theorem frameArrived_bad (h : bad = true ∨ sum ≠ frameCheck kind body) :
    frameArrived n kind body sum bad s = s.modLine n BenchLine.drop := if_pos (frameBad_iff.2 h)

theorem frameArrived_good (hb : bad = false) (hs : sum = frameCheck kind body) :
    frameArrived n kind body sum bad s =
      if (s.lineAt n).expected.isNone then s.modLine n fun l => { l.hunt with unsolicited := bump l.unsolicited }
      else goOn n (takeReply n (decodeReply kind body) (s.modLine n BenchLine.hunt)) :=
  if_neg fun h => (frameBad_iff.1 h).elim (by simp [hb]) (absurd hs)

end

/-! R136, R141: a character at a receiver that hunts. -/

section
variable {c : Byte} {pb sb : Bool} (h : (s.lineAt n).rx = .hunting)
include h

theorem benchCharacter_start (hc : c = startChar) (he : charError (s.lineAt n).parity c pb sb = false) :
    benchCharacter n c pb sb s = s.modLine n fun l =>
      { l with rx := .collecting [c] false l.rate l.parity, gapTimer := some 20 } := by
  simp only [benchCharacter, h, he]
  exact if_pos (by simp [hc])

theorem benchCharacter_noStart (hc : c ≠ startChar ∨ charError (s.lineAt n).parity c pb sb = true) :
    benchCharacter n c pb sb s = s := by
  simp only [benchCharacter, h]
  exact if_neg (by rcases hc with hc | hc <;> simp [hc])

end

end

/-- Settles O47: each event at a closed receiver, then at an open one, then a character at one that hunts. -/
theorem benchReceive : Obligations.BenchReceive := by
  rintro s l n x kind c body sum bad pb sb rfl rfl
  have hframe : exec (.benchFrameReceived l kind body sum bad) s = .next (pump (benchFrame l kind body sum bad s)) := rfl
  have hover : exec (.bodyLengthOverlong l) s = .next (pump (overlongHeader l s)) := rfl
  have hchar : exec (.benchCharacterReceived l c pb sb) s = .next (pump (benchCharacter l c pb sb s)) := rfl
  have hgap : exec (.gapTimerExpiry l) s = .next (pump (gapExpiry l s)) := rfl
  refine ⟨fun h => ?_, fun h hunt drop hhunt hdrop => ?_, fun h => ⟨fun hc he => ?_, fun hc => ?_⟩⟩
  · simp only [List.forall_mem_cons, List.not_mem_nil, false_imp_iff, implies_true, and_true]
    refine ⟨?_, ?_, ?_, ?_⟩
    · rw [hframe, benchFrame_closed h]
    · rw [hover, overlongHeader_closed h]
    · rw [hchar, benchCharacter_closed h]
    · rw [hgap, gapExpiry_closed h]
  · have hdropped : s.modLine l BenchLine.drop = s.setLine l drop := by rw [hdrop]; rfl
    refine ⟨?_, fun hb => ⟨fun hbad => ?_, fun hb' hs => ⟨fun he => ?_, fun he => ?_⟩⟩, fun chars b r p hrx hg => ?_⟩
    · rw [hover, overlongHeader_open h, hdropped]
    · rw [hframe, benchFrame_open h hb, frameArrived_bad hbad, hdropped]
    · rw [hframe, benchFrame_open h hb, frameArrived_good hb' hs, he, hhunt]
      rfl
    · rw [hframe, benchFrame_open h hb, frameArrived_good hb' hs, if_neg (by simpa using Option.isSome_iff_ne_none.1 he),
        hhunt]
      rfl
    · rw [hgap, gapExpiry_collecting hrx hg, hdropped]
  · rw [hchar, benchCharacter_start h hc he]
    rfl
  · rw [hchar, benchCharacter_noStart h hc]

/-! ## A frame character by character (R136, R141, R142, R151, R152): O49 -/

/-! ### The parts of a frame (R151) -/

section
variable {kind : Byte} {body : Text}

/-- R151: the length byte that a frame's header announces. -/
theorem lengthByte_toNat (hb : body.length ≤ 200) : (BitVec.ofNat 8 body.length).toNat = body.length := by
  rw [BitVec.toNat_ofNat]
  omega

theorem frameChars_length : (frameChars kind body).length = 5 + body.length := by
  simp [frameChars]
  omega

theorem frameChars_getElem_two : (frameChars kind body)[2]? = some (BitVec.ofNat 8 body.length) := rfl

theorem frameKind_frameChars : frameKind (frameChars kind body) = kind := rfl

theorem frameBody_frameChars (hb : body.length ≤ 200) : frameBody (frameChars kind body) = body := by
  change (body ++ _).take (BitVec.ofNat 8 body.length).toNat = body
  rw [lengthByte_toNat hb, List.take_left]

/-- A 16-bit number sent as its two bytes, the high one first. -/
theorem beNum_bytes (v : BitVec 16) : BitVec.ofNat 16 (beNum [(v >>> 8).setWidth 8, v.setWidth 8]) = v := by
  apply BitVec.eq_of_toNat_eq
  have := v.isLt
  simp only [beNum, List.foldl_cons, List.foldl_nil, BitVec.toNat_setWidth, BitVec.toNat_ushiftRight,
    BitVec.toNat_ofNat, Nat.shiftRight_eq_div_pow]
  omega

/-- R152: a frame ends with its check. -/
theorem frameSum_frameChars (hb : body.length ≤ 200) : frameSum (frameChars kind body) = frameCheck kind body := by
  have hdrop : (frameChars kind body).drop (3 + (BitVec.ofNat 8 body.length).toNat) =
      [(frameCheck kind body >>> 8).setWidth 8, (frameCheck kind body).setWidth 8] := by
    rw [lengthByte_toNat hb, ← List.drop_drop]
    exact List.drop_left
  exact (congrArg (BitVec.ofNat 16 <| beNum ·) hdrop).trans (beNum_bytes _)

/-- R141: a frame is whole with its last character, and not before. -/
theorem frameWhole_iff {pre post : Text} (hb : body.length ≤ 200) (h : frameChars kind body = pre ++ post) :
    frameWhole pre = true ↔ post = [] := by
  have hlen : pre.length + post.length = 5 + body.length := by
    rw [← List.length_append, ← h, frameChars_length]
  have hget (h3 : 3 ≤ pre.length) : (pre.getD 2 0).toNat = body.length := by
    have h2 : pre[2]? = some (BitVec.ofNat 8 body.length) := by
      rw [← frameChars_getElem_two (kind := kind), h, List.getElem?_append_left h3]
    rw [List.getD_eq_getElem?_getD, h2]
    exact lengthByte_toNat hb
  simp only [frameWhole, Bool.and_eq_true, decide_eq_true_iff, ← List.length_eq_zero_iff]
  constructor
  · rintro ⟨h3, hw⟩
    rw [hget h3] at hw
    omega
  · intro hp
    have h3 : 3 ≤ pre.length := by omega
    rw [hget h3]
    omega

end

/-- R136: a character sent with its parity bit and its stop bit has no character error. -/
theorem charError_sent (p : Parity) (c : Byte) : charError p c ((parityBit p c).getD false) true = false := by
  cases p <;> simp [charError, parityBit]

/-! ### The characters one by one (R141) -/

/-- R141: the line once the characters `chars`, all good, have been collected. -/
def BenchLine.collects (chars : Text) (l : BenchLine) : BenchLine :=
  { l with rx := .collecting chars false l.rate l.parity, gapTimer := some 20 }

section
variable {s : State} {n : Nat}

theorem lineAt_modLine_self (hn : n < 8) (f : BenchLine → BenchLine) : (s.modLine n f).lineAt n = f (s.lineAt n) := by
  rw [lineAt_modLine, if_pos ⟨rfl, hn⟩]

/-- R141, R142: a frame's last character leads to the same, whatever has been collected. -/
theorem frameArrived_collects (hn : n < 8) (chars : Text) (kind : Byte) (body : Text) :
    frameArrived n kind body (frameCheck kind body) false (s.modLine n (BenchLine.collects chars)) =
      frameArrived n kind body (frameCheck kind body) false s := by
  rw [frameArrived_good rfl rfl, frameArrived_good rfl rfl, modLine_modLine, modLine_modLine, lineAt_modLine_self hn]
  rfl

/-- The next character of a frame, sent without error. -/
theorem benchCharacter_collects (hn : n < 8) {kind c : Byte} {body pre post : Text} (hb : body.length ≤ 200)
    (h : frameChars kind body = pre ++ c :: post) :
    benchCharacter n c ((parityBit (s.lineAt n).parity c).getD false) true (s.modLine n (BenchLine.collects pre)) =
      if post = [] then frameArrived n kind body (frameCheck kind body) false s
      else s.modLine n (BenchLine.collects (pre ++ [c])) := by
  have h' : frameChars kind body = (pre ++ [c]) ++ post := by rw [h, List.append_assoc]; rfl
  have hfits : ¬ ((pre ++ [c]).length = 3 && decide (Config.bodyMax < c.toNat)) = true := by
    simp only [Bool.and_eq_true, decide_eq_true_iff, not_and, List.length_append, List.length_singleton]
    intro h3
    have hc : c = BitVec.ofNat 8 body.length := by
      have h2 := frameChars_getElem_two (kind := kind) (body := body)
      rw [h, List.getElem?_append_right (by omega), show 2 - pre.length = 0 by omega] at h2
      exact Option.some.inj h2
    rw [hc, lengthByte_toNat hb]
    exact not_lt.2 hb
  have hstep : benchCharacter n c ((parityBit (s.lineAt n).parity c).getD false) true
      (s.modLine n (BenchLine.collects pre)) = collectChar n pre false (s.lineAt n).rate (s.lineAt n).parity c false
        (s.modLine n (BenchLine.collects pre)) := by
    rw [benchCharacter, lineAt_modLine_self hn]
    exact congrArg (collectChar n pre false _ _ c · _) (charError_sent ..)
  rw [hstep, collectChar, if_neg hfits]
  by_cases hp : post = []
  · subst hp
    rw [List.append_nil] at h'
    rw [← h', if_pos ((frameWhole_iff hb (List.append_nil _).symm).2 rfl), if_pos rfl, frameKind_frameChars,
      frameBody_frameChars hb, frameSum_frameChars hb]
    exact frameArrived_collects hn ..
  · rw [if_neg (mt (frameWhole_iff hb h').1 hp), if_neg hp, modLine_modLine, State.modLine, State.modLine]
    rfl

/-- The rest of a frame, part of which has been collected. -/
theorem foldl_benchCharacter_collects (hn : n < 8) {kind : Byte} {body pre post : Text} (hb : body.length ≤ 200)
    (h : frameChars kind body = pre ++ post) (hp : post ≠ []) :
    post.foldl (fun t c => benchCharacter n c ((parityBit (s.lineAt n).parity c).getD false) true t)
        (s.modLine n (BenchLine.collects pre)) = frameArrived n kind body (frameCheck kind body) false s := by
  induction post generalizing pre with
  | nil => exact absurd rfl hp
  | cons c post ih =>
    rw [List.foldl_cons, benchCharacter_collects hn hb h]
    by_cases hpost : post = []
    · rw [if_pos hpost, hpost]
      rfl
    · rw [if_neg hpost]
      exact ih (by rw [h, List.append_assoc]; rfl) hpost

end

/-- Settles O49: the start character begins the frame, and the rest of its characters complete it
(`foldl_benchCharacter_collects`). -/
theorem frameCharByChar : Obligations.FrameCharByChar := by
  intro s n kind body hn hrx hb
  obtain ⟨rest, hrest⟩ : ∃ rest, frameChars kind body = [startChar] ++ kind :: rest := ⟨_, rfl⟩
  rw [benchFrame_open (by rw [hrx]; nofun) hb, ← foldl_benchCharacter_collects hn hb hrest (by simp), hrest]
  exact congrArg (List.foldl _ · _) (benchCharacter_start hrx rfl (charError_sent ..))

end Sys2Proof.Machine

namespace Sys2Proof.Machine

/-! ## The end of start-up (R149, R171, R188 to R190): O56 -/

/-! ### The records (R171, R189) -/

/-- R189: what start-up makes of an entry: a CLOSED one stays, an OPEN one is closed INTERRUPTED. -/
structure Record.Resolved (r r' : Record) : Prop where
  closed : r.closed = true → r' = r
  interrupted : r.closed = false → ∃ more, r' = { r with
    closed := true, outcome := some .interrupted, failStep := none, voided := r.voided ++ more }

theorem resolveRecord_resolved (r : Record) (s : State) : r.Resolved (resolveRecord r s).1 := by
  unfold resolveRecord
  split <;> rename_i h
  · exact ⟨fun _ => rfl, fun ho => absurd h (by simp [ho])⟩
  · exact ⟨fun hc => absurd hc h, fun _ => ⟨_, rfl⟩⟩

/-- R189: the numbers given back touch the accounts alone. -/
theorem resolveRecord_eq (r : Record) (s : State) : ∃ a, (resolveRecord r s).2 = { s with accounts := a } := by
  unfold resolveRecord
  split
  · exact ⟨s.accounts, rfl⟩
  · exact ⟨_, returnAll_eq s r.deliveries⟩

theorem resolveRecords_eq (l : List Record) (s : State) : ∃ a, (resolveRecords l s).2 = { s with accounts := a } := by
  induction l generalizing s with
  | nil => exact ⟨s.accounts, rfl⟩
  | cons r l ih =>
    obtain ⟨a, ha⟩ := resolveRecord_eq r s
    obtain ⟨b, hb⟩ := ih (resolveRecord r s).2
    exact ⟨b, hb.trans (congrArg (fun u : State => { u with accounts := b }) ha)⟩

/-- R189: every entry keeps its place and is resolved. -/
theorem resolveRecords_getElem? {l : List Record} {i : Nat} {r : Record} (h : l[i]? = some r) (s : State) :
    ∃ r', (resolveRecords l s).1[i]? = some r' ∧ r.Resolved r' := by
  induction l generalizing s i with
  | nil => cases h
  | cons x l ih =>
    cases i with
    | zero =>
      obtain rfl : x = r := Option.some.inj h
      exact ⟨_, rfl, resolveRecord_resolved x s⟩
    | succ i => exact ih h (resolveRecord x s).2

/-! ### Keys and plans (R24, R89, R188 steps 2 and 4) -/

section
variable (s : State) (n : Nat)

/-- R188 step 2 on a slot: its bindings and reservations are cleared. -/
def SlotRec.unbound (r : SlotRec) : SlotRec :=
  { r with bound := [], allowance := r.allowance.map fun al => { al with reserved := 0 } }

/-- R188, step 4: an ASSEMBLING slot becomes EMPTY. -/
def unassembled (x : Slot) : Slot := if (x.map SlotRec.state) = some .assembling then none else x

/-- R188, steps 2 to 4: what the settling of the stores does beside the accounts. -/
theorem settleStores_eq : ∃ a, settleStores s = { s with
    accounts := a
    records := .down (resolveRecords s.records.entries s).1
    keys := { s.keys with slots := (clearBindings s.keys.slots).map unassembled }
    plans := s.plans.map Plan.restarted } := by
  obtain ⟨a, ha⟩ := resolveRecords_eq s.records.entries s
  refine ⟨a, ?_⟩
  unfold settleStores
  dsimp only
  rw [ha]
  rfl

theorem settleStores_planAt : (settleStores s).planAt n = (s.planAt n).restarted := by
  obtain ⟨a, ha⟩ := settleStores_eq s
  rw [ha]
  exact look_map s.plans Plan.restarted .factory n

theorem settleStores_slotAt : (settleStores s).slotAt n = unassembled ((s.slotAt n).map SlotRec.unbound) := by
  obtain ⟨a, ha⟩ := settleStores_eq s
  have hclear : look (clearBindings s.keys.slots) none n = (s.slotAt n).map SlotRec.unbound :=
    look_map s.keys.slots (Option.map SlotRec.unbound) none n
  rw [ha, ← hclear]
  exact look_map (clearBindings s.keys.slots) unassembled none n

theorem settleStores_slotAt_none (h : s.slotAt n = none) : (settleStores s).slotAt n = none := by
  rw [settleStores_slotAt, h]
  rfl

theorem settleStores_slotAt_some {r : SlotRec} (h : s.slotAt n = some r) :
    (settleStores s).slotAt n = if r.state = .assembling then none else some r.unbound := by
  rw [settleStores_slotAt, h]
  simp only [unassembled, Option.map_some, Option.some.injEq]
  rfl

end

/-! ### The lanes and their lines (R149, R188 step 5) -/

theorem Lane.up_state (m : Mode) (l : Lane) :
    (Lane.up m l).state = if l.online = true ∧ m = .normal then .idle else .offline := by
  simp [Lane.up]

/-- R149: the receiver opens with its lane. -/
theorem BenchLine.up_rx (m : Mode) (l : Lane) (x : BenchLine) : (BenchLine.up (Lane.up m l).state x).rx =
    if l.online = true ∧ m = .normal then .hunting else .closed := by
  rw [BenchLine.up, Lane.up_state]
  split <;> rfl

/-- R138, R149: the settle timer starts where a terminal stands in the cradle. -/
theorem BenchLine.up_settle (st : LaneState) (x : BenchLine) :
    (BenchLine.up st x).settle = if x.contact then some 50 else none := by
  rw [BenchLine.up, settleFor]
  cases x.contact <;> rfl

/-! ### The notices and the Cipher Unit (R25, R178, R179, R183, R190) -/

theorem raiseAll_eq (ls : List Line) (s : State) : ∃ k, raiseAll ls s = { s with link := k } := by
  induction ls generalizing s with
  | nil => exact ⟨s.link, rfl⟩
  | cons l ls ih =>
    obtain ⟨k, hk⟩ := ih (raiseNotice l s)
    exact ⟨k, hk.trans (congrArg (fun u : State => { u with link := k }) (raiseNotice_eq l s))⟩

/-- The port with no line going out and no reply, where `l` is the oldest notice. -/
structure LinkPort.Heads (l : Line) (k : LinkPort) : Prop where
  rx : k.rx = .collecting
  sending : k.sending = none
  reply : k.reply = none
  notices : ∃ rest, k.notices = l :: rest

/-- R179: a notice raised later leaves the oldest one in its place. -/
theorem LinkPort.Heads.raiseAll {l : Line} (ls : List Line) {s : State} (h : s.link.Heads l) :
    (raiseAll ls s).link.Heads l := by
  induction ls generalizing s with
  | nil => exact h
  | cons x ls ih =>
    obtain ⟨rest, hrest⟩ := h.notices
    refine ih (s := raiseNotice x s) ?_
    rcases raiseNotice_cases x s with ⟨-, hx⟩ | ⟨-, -, hx⟩ | ⟨-, -, hx⟩ <;> rw [hx]
    · exact { h with }
    · exact { h with notices := ⟨rest ++ [x], by rw [hrest]; rfl⟩ }
    · exact { h with }

/-- R178: the transmitter takes the oldest notice; the receiver goes on collecting. -/
theorem LinkPort.Heads.take {l : Line} {k : LinkPort} (h : k.Heads l) :
    k.take.rx = .collecting ∧ k.take.sending = some (Sent.of false l) := by
  obtain ⟨rest, hrest⟩ := h.notices
  simp only [LinkPort.take, h.sending, h.reply, hrest]
  split <;> exact ⟨h.rx, rfl⟩

/-- R183, R190: STARTED is placed, and the held notices go behind it. -/
theorem announce_eq (cause : StartCause) (m : Mode) (k : Nat) (s : State) : ∃ p : LinkPort,
    p.Heads (startedLine cause m k) ∧ announce cause m k s = { s with startUp := none, link := p } := by
  obtain ⟨u, hu⟩ : ∃ u : State, u = { s with
      startUp := none
      link := { LinkPort.down with rx := .collecting, notices := [startedLine cause m k] } } := ⟨_, rfl⟩
  have hall : announce cause m k s = raiseAll s.link.hold u := by rw [hu]; rfl
  have hheads : u.link.Heads (startedLine cause m k) := by rw [hu]; exact ⟨rfl, rfl, rfl, [], rfl⟩
  have hraised := hheads.raiseAll s.link.hold
  obtain ⟨p, hp⟩ := raiseAll_eq s.link.hold u
  rw [hp] at hraised
  exact ⟨p, hraised, by rw [hall, hp, hu]⟩

/-- R19: where no run is current the arbiter touches the Cipher Unit alone. -/
theorem unitFree_eq {s : State} (h : ∀ q, s.ctxAt q = none) : ∃ u, unitFree s = { s with cipher := u } := by
  obtain ⟨u, hu⟩ := serveWaiting_cipher { s with cipher := { s.cipher with executing := none } } 10
  refine ⟨u, ?_⟩
  unfold unitFree
  dsimp only
  rw [hu]
  exact keyFaults_none { s with cipher := u } _ h

theorem unitTested_eq {s : State} (m : Mode) (h : ∀ q, s.ctxAt q = none) :
    ∃ u, unitTested m s = { s with cipher := u } := by
  unfold unitTested
  split
  · exact unitFree_eq (s := { s with cipher := { s.cipher with selfTest := false } }) h
  · exact ⟨_, rfl⟩

/-! ### The whole of it (R188) -/

theorem selfTestComplete_idle {s : State} (h : s.startUp = none) (a b c d : Bool) : selfTestComplete a b c d s = s := by
  simp only [selfTestComplete, h]

/-- R188: the stores settled, the lanes up, and beside them STARTED placed and the unit's arbiter at work. -/
theorem selfTestComplete_eq {s : State} {cause : StartCause} {a b c d : Bool} {m : Mode} (h : s.startUp = some cause)
    (he : s.cipher.executing = none) (hm : m = if a && b && c && d then .normal else .failed) :
    ∃ (p : LinkPort) (u : CipherUnit), p.Heads (startedLine cause m (openCount s.records.entries)) ∧
      selfTestComplete a b c d s =
        { bringUp m (settleStores s) with startUp := none, link := p, cipher := u } := by
  obtain ⟨p, hp, hann⟩ := announce_eq cause m (openCount s.records.entries) (bringUp m (settleStores s))
  have hctx (q : Nat) : (bringUp m (settleStores s)).ctxAt q = none := by
    rw [State.ctxAt, bringUp_laneAt]
    rfl
  obtain ⟨u, hu⟩ := unitTested_eq (s := announce cause m (openCount s.records.entries) (bringUp m (settleStores s))) m
    (by rw [hann]; exact hctx)
  refine ⟨p, u, hp, ?_⟩
  simp only [selfTestComplete, h, he, Option.isSome_none, Bool.false_eq_true, if_false, ← hm]
  rw [hu, hann]

/-- Settles O56: `t` is the state of `selfTestComplete_eq`, each place of it by what `settleStores` and `bringUp` leave
there. -/
theorem startUpEnds : Obligations.StartUpEnds := by
  intro s a b c d cause m
  have hexec : exec (.selfTestComplete a b c d) s = .next (pump (selfTestComplete a b c d s)) := rfl
  refine ⟨fun h => by rw [hexec, selfTestComplete_idle h], fun h he hm => ?_⟩
  obtain ⟨p, u, hp, heq⟩ := selfTestComplete_eq (a := a) (b := b) (c := c) (d := d) (m := m) h he
    (by simp only [hm, Bool.and_eq_true, and_assoc])
  obtain ⟨x, hx⟩ := settleStores_eq s
  obtain ⟨t, ht⟩ : ∃ t, t = pump (selfTestComplete a b c d s) := ⟨_, rfl⟩
  rw [hexec, ← ht]
  rw [heq] at ht
  have hlink : t.link = p.take := by rw [ht]; rfl
  have hrecords : t.records.entries = (resolveRecords s.records.entries s).1 := by
    rw [ht]
    exact congrArg (fun v : State => v.records.entries) hx
  have hlane (n : Nat) : t.laneAt n = Lane.up m (s.laneAt n) := by
    rw [ht, show s.laneAt n = (settleStores s).laneAt n by rw [hx]; rfl]
    exact bringUp_laneAt ..
  have hline (n : Nat) : t.lineAt n = BenchLine.up (Lane.up m (s.laneAt n)).state (s.lineAt n) := by
    rw [ht, show s.laneAt n = (settleStores s).laneAt n by rw [hx]; rfl,
      show s.lineAt n = (settleStores s).lineAt n by rw [hx]; rfl]
    exact bringUp_lineAt ..
  have hplan (n : Nat) : t.planAt n = (s.planAt n).restarted := by rw [ht, ← settleStores_planAt]; rfl
  have hslot (n : Nat) : t.slotAt n = (settleStores s).slotAt n := by rw [ht]; rfl
  refine ⟨t, rfl, by rw [ht]; rfl, by rw [ht]; rfl, ?latch, by rw [hlink]; exact hp.take.1, ?started, fun n _ => ?lane,
    ?count, fun i r hr => ?record, fun n => ?plan, fun n hn => ?empty, fun n r hr => ?slot, by rw [ht]; rfl, ?timer⟩
  case latch =>
    have hlatch : t.latch = (settleStores s).latch := by rw [ht]; rfl
    rw [hlatch, hx]
  case started =>
    rw [hlink, show (s.records.entries.countP fun r => !r.closed) = openCount s.records.entries from
      List.countP_eq_length_filter]
    cases cause <;> cases m <;> exact ⟨_, hp.take.2⟩
  case lane =>
    rw [hlane, hline]
    exact ⟨rfl, rfl, rfl, Lane.up_state .., BenchLine.up_rx .., rfl, rfl, BenchLine.up_settle ..⟩
  case count => rw [hrecords, (StoreMoves.resolveRecords s.records.entries s).2]
  case record =>
    obtain ⟨r', hr', hres⟩ := resolveRecords_getElem? hr s
    rw [hrecords, hr']
    refine ⟨fun hc => by rw [hres.closed hc], fun ho => ?_⟩
    obtain ⟨more, rfl⟩ := hres.interrupted ho
    exact ⟨more, rfl⟩
  case plan =>
    rw [hplan]
    exact ⟨rfl, rfl, rfl, rfl⟩
  case empty => rw [hslot, settleStores_slotAt_none s n hn]
  case slot =>
    rw [hslot, settleStores_slotAt_some s n hr]
    exact ⟨fun hs => if_pos hs, fun hs => if_neg hs⟩
  case timer =>
    rw [ht, show s.keys.scrubInterval = (settleStores s).keys.scrubInterval by rw [hx]]
    simp only [pump_keys, bringUp]
    cases m <;> simp

end Sys2Proof.Machine

namespace Sys2Proof.Machine

/-! ## Collection from the Record Queue (R167 to R169): O50 -/

/-! ### The entry that a request finds -/

theorem isRef_iff {n o : Nat} {r : Record} : r.isRef n o = true ↔ r.lane = n ∧ r.ordinal.toNat = o := by
  simp [Record.isRef]

theorem isRef_eq_false {n o : Nat} {r : Record} : r.isRef n o = false ↔ r.lane ≠ n ∨ r.ordinal.toNat ≠ o := by
  rw [← Bool.not_eq_true, isRef_iff, Decidable.not_and_iff_or_not]

section
variable {pre post : List Record} {r : Record}

theorem oldestClosed_none {l : List Record} (h : ∀ r ∈ l, r.closed = false) : oldestClosed l = none :=
  List.find?_eq_none.2 fun r hr => Bool.not_eq_true _ ▸ h r hr

theorem oldestClosed_append (h : ∀ x ∈ pre, x.closed = false) (hr : r.closed = true) :
    oldestClosed (pre ++ r :: post) = some r :=
  List.find?_eq_some_iff_append.2 ⟨hr, pre, post, rfl, fun x hx => by rw [h x hx]; rfl⟩

/-- R169: the discard takes out the oldest CLOSED entry alone. -/
theorem eraseP_closed_append (h : ∀ x ∈ pre, x.closed = false) (hr : r.closed = true) :
    (pre ++ r :: post).eraseP (fun x => x.closed) = pre ++ post := by
  rw [List.eraseP_append_right _ fun x hx => by simp [h x hx], List.eraseP_cons_of_pos hr]

variable {s : State} {n o : Nat}

theorem recordAt_none (h : ∀ r ∈ s.records.entries, r.lane ≠ n ∨ r.ordinal.toNat ≠ o) : recordAt n o s = none :=
  List.find?_eq_none.2 fun r hr => Bool.not_eq_true _ ▸ isRef_eq_false.2 (h r hr)

theorem recordAt_append (he : s.records.entries = pre ++ r :: post)
    (h : ∀ x ∈ pre, x.lane ≠ n ∨ x.ordinal.toNat ≠ o) (hn : r.lane = n) (ho : r.ordinal.toNat = o) :
    recordAt n o s = some r :=
  List.find?_eq_some_iff_append.2
    ⟨isRef_iff.2 ⟨hn, ho⟩, pre, post, he, fun x hx => by rw [isRef_eq_false.2 (h x hx)]; rfl⟩

end

/-! ### What each request answers -/

section
variable {s : State} {n o k : Nat} {r : Record} {f : Record → List Item}

theorem readRecord_none (h : oldestClosed s.records.entries = none) : readRecord s = refuse .empty s := by
  simp only [readRecord, h]

theorem readRecord_some (h : oldestClosed s.records.entries = some r) : readRecord s = (.ok r.summary, s) := by
  simp only [readRecord, h]

/-- R168: the fields of a delivery entry; an optional field without a value is left out. -/
theorem Delivery.items_eq (d : Delivery) : d.items k = List.flatten
    [[.field "INDEX" (.num k), .field "POS" (.num d.pos), .field "SLOT" (.num d.slot), .field "TSLOT" (.num d.tslot)],
      (match d.cv with | some v => [.field "CV" (.hex 6 v.toNat)] | none => []),
      [.field "PHASE" (.word d.phase.word)],
      (match d.reason with | some w => [.field "REASON" (.word w.word)] | none => []),
      (match d.tki with | some t => [.field "TKI" (.raw (tkiText t))] | none => [])] := by
  unfold Delivery.items
  cases d.cv <;> cases d.reason <;> cases d.tki <;> rfl

variable (hn : n < 8) (ho : o ≤ 65535)
include hn ho

/-- R168: a reference in form and range comes to what follows it. -/
theorem recordRef_val (g : Nat → Nat → Answer × State) : recordRef (.val n) (.val o) s g = g n o := by
  have hword : o < Config.word16Max + 1 := Nat.lt_succ_of_le ho
  rw [recordRef, num_val (by omega), num_val (by omega), below_lt hn, below_lt hword]

theorem readEntry_none (h : recordAt n o s = none) :
    readEntry (.val n) (.val o) false f s = refuse .empty s := by
  rw [readEntry, if_neg nofun, recordRef_val hn ho]
  simp only [h]

theorem readEntry_some (h : recordAt n o s = some r) :
    readEntry (.val n) (.val o) false f s = (.ok (f r), s) := by
  rw [readEntry, if_neg nofun, recordRef_val hn ho]
  simp only [h]

theorem discardRecord_none (h : oldestClosed s.records.entries = none) :
    discardRecord (.val n) (.val o) s = refuse .mismatch s := by
  rw [discardRecord, recordRef_val hn ho]
  simp only [h]

/-- R169: a reference that is not the oldest CLOSED entry's. -/
theorem discardRecord_other (h : oldestClosed s.records.entries = some r) (href : r.isRef n o = false) :
    discardRecord (.val n) (.val o) s = refuse .mismatch s := by
  rw [discardRecord, recordRef_val hn ho]
  simp only [h, href, Bool.not_false, if_true]

/-- R169: the oldest CLOSED entry goes, and every waiting lane is told. -/
theorem discardRecord_taken {pre post : List Record} (he : s.records.entries = pre ++ r :: post)
    (hopen : ∀ x ∈ pre, x.closed = false) (hr : r.closed = true) (href : r.isRef n o = true) :
    discardRecord (.val n) (.val o) s =
      (.ok (r.ref ++ [.field "FREE" (.num (48 - (pre.length + post.length)))]),
        { s with records := { s.records with
            entries := pre ++ post, told := s.records.waiting, fullReported := false } }) := by
  rw [discardRecord, recordRef_val hn ho]
  simp only [he, oldestClosed_append hopen hr, eraseP_closed_append hopen hr, href, freePlaces, List.length_append]
  rfl

variable (hk : k < 10 ^ 8)
include hk

/-- R168: an INDEX in form comes to the entry's delivery of that index. EMPTY goes before RANGE (entry 30). -/
theorem readRecordDelivery_val : readRecordDelivery (.val n) (.val o) (.val k) s =
    (recordAt n o s).elim (refuse .empty s) fun r =>
      r.deliveries[k]?.elim (refuse .range s) fun d => (.ok (r.ref ++ d.items k), s) := by
  have hform : ((Arg.val k).badNum 8 || !(Arg.val k).isGiven) = false := by
    simpa [Arg.badNum, Arg.isGiven] using hk
  rw [readRecordDelivery, if_neg (by rw [hform]; nofun), recordRef_val hn ho]
  cases recordAt n o s with
  | none => rfl
  | some r =>
    refine (num_val hk).trans ?_
    rw [Option.elim_some]
    cases r.deliveries[k]? with
    | none => rfl
    | some d => rfl

theorem readRecordDelivery_none (h : recordAt n o s = none) :
    readRecordDelivery (.val n) (.val o) (.val k) s = refuse .empty s := by
  rw [readRecordDelivery_val hn ho hk, h, Option.elim_none]

theorem readRecordDelivery_past (h : recordAt n o s = some r) (hlen : r.deliveries.length ≤ k) :
    readRecordDelivery (.val n) (.val o) (.val k) s = refuse .range s := by
  rw [readRecordDelivery_val hn ho hk, h, Option.elim_some, List.getElem?_eq_none hlen, Option.elim_none]

theorem readRecordDelivery_some (h : recordAt n o s = some r) {d : Delivery} (hd : r.deliveries[k]? = some d) :
    readRecordDelivery (.val n) (.val o) (.val k) s = (.ok (r.ref ++ d.items k), s) := by
  rw [readRecordDelivery_val hn ho hk, h, Option.elim_some, hd, Option.elim_some]

end

/-- Settles O50: by the oldest CLOSED entry for READ-RECORD without arguments and DISCARD-RECORD, by the entry with the
reference for the other four. -/
theorem recordRequests : Obligations.RecordRequests := by
  intro s tag n o k hs hn ho hk
  have discardErr := fun h => operator_err (c := .mismatch) hs (i := .discardRecord tag (.val n) (.val o))
    (discardRecord (.val n) (.val o)) rfl h
  refine ⟨fun hopen => ?none, fun pre r post he hpre hr => ?oldest, fun hother => ?missing,
    fun pre r post he hpre hlane hord ref href => ?found⟩
  case none =>
    have hold : oldestClosed (heard s).records.entries = none := oldestClosed_none hopen
    exact ⟨operator_err hs readRecord rfl (readRecord_none hold), discardErr (discardRecord_none hn ho hold)⟩
  case oldest =>
    have hold : oldestClosed (heard s).records.entries = some r := by
      rw [heard_records, he]
      exact oldestClosed_append hpre hr
    refine ⟨operator_ok hs readRecord rfl (readRecord_some hold),
      fun h => discardErr (discardRecord_other hn ho hold (isRef_eq_false.2 h)), fun hlane hord => ?_⟩
    have htaken := discardRecord_taken (s := heard s) hn ho he hpre hr (isRef_iff.2 ⟨hlane, hord⟩)
    rw [Record.ref, fLane, fOrdinal, hlane, hord] at htaken
    exact operator_ok hs (discardRecord (.val n) (.val o)) rfl htaken
  case missing =>
    have hnone : recordAt n o (heard s) = none := recordAt_none hother
    simp only [List.forall_mem_cons]
    exact ⟨operator_err hs (readRecordEntry (.val n) (.val o) false) rfl (readEntry_none hn ho hnone),
      operator_err hs (readRecordDelivery (.val n) (.val o) (.val k)) rfl (readRecordDelivery_none hn ho hk hnone),
      operator_err hs (readRecordVoided (.val n) (.val o) false) rfl (readEntry_none hn ho hnone),
      operator_err hs (readRecordNotes (.val n) (.val o) false) rfl (readEntry_none hn ho hnone),
      List.forall_mem_nil _⟩
  case found =>
    have hsome : recordAt n o (heard s) = some r := recordAt_append (s := heard s) he hpre hlane hord
    have hrref : r.ref = ref := by rw [href, Record.ref, fLane, fOrdinal, hlane, hord]
    subst hrref
    refine ⟨operator_ok hs (readRecordEntry (.val n) (.val o) false) rfl (readEntry_some hn ho hsome),
      operator_ok hs (readRecordVoided (.val n) (.val o) false) rfl (readEntry_some hn ho hsome),
      operator_ok hs (readRecordNotes (.val n) (.val o) false) rfl (readEntry_some hn ho hsome),
      fun hlen => operator_err hs (readRecordDelivery (.val n) (.val o) (.val k)) rfl
        (readRecordDelivery_past hn ho hk hsome hlen), fun d hd => ?_⟩
    have hread := readRecordDelivery_some hn ho hk hsome hd
    rw [Delivery.items_eq] at hread
    exact operator_ok hs (readRecordDelivery (.val n) (.val o) (.val k)) rfl hread

end Sys2Proof.Machine

namespace Sys2Proof.Machine

/-! ## The transmitter (R178, R180): O52 -/

section
variable {s : State}

theorem take_sending {k : LinkPort} (h : k.sending.isSome) : k.take = k := by
  obtain ⟨x, hx⟩ := Option.isSome_iff_exists.1 h
  simp only [LinkPort.take, hx]

theorem take_reply {k : LinkPort} {r : Line} (hs : k.sending = none) (hr : k.reply = some r) :
    k.take = { k with sending := some (Sent.of true r), reply := none } := by
  simp only [LinkPort.take, hs, hr]

theorem take_notice {k : LinkPort} {l : Line} {rest : List Line} (hs : k.sending = none) (hr : k.reply = none)
    (hn : k.notices = l :: rest) (hg : k.gap = false) :
    k.take = { k with sending := some (Sent.of false l), notices := rest } := by
  simp only [LinkPort.take, hs, hr, hn, hg, Bool.false_eq_true, if_false]

/-- R180: the place that frees takes the GAP line. -/
theorem take_gap {k : LinkPort} {l : Line} {rest : List Line} (hs : k.sending = none) (hr : k.reply = none)
    (hn : k.notices = l :: rest) (hg : k.gap = true) : k.take =
      { k with sending := some (Sent.of false l), notices := rest ++ [gapLine k.lost], gap := false, lost := 0 } := by
  simp only [LinkPort.take, hs, hr, hn, hg, if_true]

theorem take_idle {k : LinkPort} (hr : k.reply = none) (hn : k.notices = []) : k.take = k := by
  cases hs : k.sending with
  | some x => exact take_sending (by rw [hs]; rfl)
  | none => simp only [LinkPort.take, hs, hr, hn]

/-- R178: the transmitter takes one line at a time. -/
theorem take_take (k : LinkPort) : k.take.take = k.take := by
  rcases take_cases k with ⟨-, h⟩ | ⟨r, -, -, h⟩ | ⟨l, rest, -, -, -, h⟩ | ⟨-, -, -, h⟩
  · rw [h, h]
  · rw [h]; exact take_sending rfl
  · rw [h]; split <;> exact take_sending rfl
  · rw [h, h]

@[simp] theorem take_rx (k : LinkPort) : k.take.rx = k.rx := by
  rcases take_cases k with ⟨-, h⟩ | ⟨r, -, -, h⟩ | ⟨l, rest, -, -, -, h⟩ | ⟨-, -, -, h⟩ <;> rw [h]
  split <;> rfl

/-- R178: the port as its line has gone out. -/
def LinkPort.sent (k : LinkPort) : LinkPort := { k with sending := none }

theorem handleHeld_other (h : s.link.rx ≠ .holding) : handleHeld s = s := by
  unfold handleHeld
  split
  · exact absurd ‹_› h
  · rfl

theorem handleHeld_holding {w : LinkLine} (h : s.link.rx = .holding) (hw : s.link.held = some w) :
    handleHeld s = handleLine w { s with link := s.link.released } := by
  simp only [handleHeld, h, hw]

/-- R178: a line has gone out, and no held line waits for that: the transmitter takes its next. -/
theorem linkTransmitEnd_takes {x : Sent} (hx : s.link.sending = some x) (h : x.isReply = false ∨ s.link.rx ≠ .holding) :
    exec .linkTransmitEnd s = .next { s with link := s.link.sent.take } := by
  have hsent : linkSent s = { s with link := s.link.sent.take } := by
    simp only [linkSent, hx]
    split
    · rename_i hr
      exact handleHeld_other (by simpa [pump] using h.resolve_left (by simp [hr]))
    · rfl
  change Host.Outcome.next (pump (linkSent s)) = _
  rw [hsent, pump, take_take]

/-- R178: a reply has gone out with nothing else to send: the held line is handled. -/
theorem linkTransmitEnd_handles {x : Sent} {w : LinkLine} (hx : s.link.sending = some x) (hreply : x.isReply = true)
    (hrx : s.link.rx = .holding) (hr : s.link.reply = none) (hn : s.link.notices = []) (hw : s.link.held = some w) :
    exec .linkTransmitEnd s = .next (pump (handleLine w { s with link := s.link.sent.released })) := by
  have hidle : pump { s with link := s.link.sent } = { s with link := s.link.sent } := by
    rw [pump, take_idle (k := s.link.sent) hr hn]
  have hsent : linkSent s = handleHeld { s with link := s.link.sent } := by
    rw [← hidle]
    simp only [linkSent, hx, hreply, if_true]
    rfl
  change Host.Outcome.next (pump (linkSent s)) = _
  rw [hsent, handleHeld_holding (s := { s with link := s.link.sent }) hrx hw]

end

/-- Settles O52: what the transmitter takes, by `LinkPort.take`'s cases, and the receiver by its mark. -/
theorem transmitter : Obligations.Transmitter := by
  intro s x hx
  refine ⟨fun h => ⟨fun r hr => ?reply, fun hr => ⟨fun hn => ?idle, fun l rest hn => ⟨fun hg => ?notice, fun hg => ?gap⟩⟩⟩,
    fun hreply hrx hr hn => ⟨fun w hw hm => ?goes, fun w hw hm => ?ended, fun w hw hm => ?skips⟩⟩
  case reply => rw [linkTransmitEnd_takes hx h, take_reply (k := s.link.sent) rfl hr]; rfl
  case idle => rw [linkTransmitEnd_takes hx h, take_idle (k := s.link.sent) hr hn]; rfl
  case notice => rw [linkTransmitEnd_takes hx h, take_notice (k := s.link.sent) rfl hr hn hg]; rfl
  case gap => rw [linkTransmitEnd_takes hx h, take_gap (k := s.link.sent) rfl hr hn hg]; rfl
  all_goals rw [linkTransmitEnd_handles hx hreply hrx hr hn hw, LinkPort.released, LinkPort.sent]
  case goes => simp only [hm]
  case ended => simp only [hm, hrx]
  case skips => simp only [hm]

end Sys2Proof.Machine

namespace Sys2Proof.Machine

/-! ## The supply and RESTART (R182, R186, R188): O55 -/

section
variable {s : State}

/-- R178: with no reply and no notice the transmitter takes nothing. -/
theorem pump_idle (hr : s.link.reply = none) (hn : s.link.notices = []) : pump s = s := by
  rw [pump, take_idle hr hn]

theorem withoutVolatile_slotAt (n : Nat) : s.withoutVolatile.slotAt n = (s.slotAt n).map SlotRec.unbound :=
  look_map s.keys.slots (Option.map SlotRec.unbound) none n

theorem withoutVolatile_laneAt (n : Nat) :
    s.withoutVolatile.laneAt n = Lane.down (s.laneAt n).online (s.laneAt n).ordinal :=
  look_map s.lanes (fun l => Lane.down l.online l.ordinal) (.down false 0) n

theorem withoutVolatile_lineAt (n : Nat) :
    s.withoutVolatile.lineAt n = BenchLine.down (s.lineAt n).rate (s.lineAt n).parity (s.lineAt n).contact :=
  look_map s.lines (fun l => BenchLine.down l.rate l.parity l.contact) (.down .r9600 .none false) n

theorem powerLoss_on (h : s.power = true) : powerLoss s = { s.withoutVolatile with power := false } := if_pos h
theorem powerLoss_off (h : s.power = false) : powerLoss s = s := if_neg (by simp [h])
theorem powerOn_on (h : s.power = true) : powerOn s = s := if_pos h

/-- R188: the state as start-up begins, before a tamper event taken with the supply off is told. -/
def State.starting (s : State) : State :=
  { s.withoutVolatile with power := true, startUp := some .powerOn, cipher := { CipherUnit.down with selfTest := true } }

theorem powerOn_off (h : s.power = false) : powerOn s = reportOff s.starting := if_neg (by simp [h])

theorem reportOff_none (h : s.offRecord = none) : reportOff s = s := by
  simp only [reportOff, h]

/-- R186, R188: the notice waits in the start-up hold. -/
theorem reportOff_some {k a : Nat} (h : s.offRecord = some (k, a)) (hs : s.startUp.isSome) : reportOff s = { s with
    link := { s.link with hold := s.link.hold ++ [tamperLineOf "POWER-OFF" k a 0] }
    offRecord := none } := by
  simp only [reportOff, h, raiseNotice, hs, if_true]

/-- R186: what the report of a tamper event taken with the supply off comes to as the supply returns. -/
theorem reportOff_starting : ∃ hold : List Line,
    reportOff s.starting =
      { s.starting with offRecord := none, link := { LinkPort.down with hold := hold } } ∧
    (s.offRecord = none → hold = []) ∧
    (∀ k a, s.offRecord = some (k, a) → hold = [tamperLineOf "POWER-OFF" k a 0]) := by
  cases h : s.offRecord with
  | none =>
    refine ⟨[], ?_, fun _ => rfl, nofun⟩
    rw [reportOff_none (s := s.starting) h]
    simp only [State.starting, State.withoutVolatile, h, LinkPort.down]
  | some r =>
    obtain ⟨k, a⟩ := r
    refine ⟨[tamperLineOf "POWER-OFF" k a 0], reportOff_some h rfl, nofun, fun _ _ hr => ?_⟩
    cases hr
    rfl

theorem cancelAll_waiting (u : CipherUnit) (q : Nat) : look (cancelAll u).waiting none q = none := look_replicate none q

/-- R182: the port has drained. -/
theorem drained_iff {k : LinkPort} : k.drained = true ↔
    k.draining = true ∧ k.sending = none ∧ k.reply = none ∧ k.notices = [] := by
  simp [LinkPort.drained, and_assoc]

theorem startUpAfterRestart_drained (hp : s.power = true) (hs : s.startUp = none) (hd : s.link.drained = true) :
    startUpAfterRestart s = { s with
      link := .down
      panel := .down
      auth := s.auth.closed
      asm := { s.asm with record := none, count := 0 }
      cipher := s.cipher.restarted
      startUp := some .restart } := if_pos (by simp [hp, hs, hd])

theorem startUpAfterRestart_waits (hd : s.link.draining = false) : startUpAfterRestart s = s :=
  if_neg (by simp [LinkPort.drained, hd])

end

/-- Settles O55: the supply's loss by the volatile store, its return by that and the report of R186, and the restart by its
one condition. -/
theorem powerAndRestart : Obligations.PowerAndRestart := by
  intro s
  have hloss : exec .powerLoss s = .next (pump (powerLoss s)) := rfl
  have hon : exec .powerOn s = .next (pump (powerOn s)) := rfl
  have hrestart : exec .startUpAfterRestart s = .next (pump (startUpAfterRestart s)) := rfl
  refine ⟨fun hp => by rw [hloss, powerLoss_off hp], fun hp => by rw [hon, powerOn_on hp], fun hp => ?lost, fun hp => ?back,
    fun hp hs hd hsend hr hn => ?drained, fun hd => by rw [hrestart, startUpAfterRestart_waits hd]⟩
  case lost =>
    refine ⟨{ s.withoutVolatile with power := false }, ?_, rfl, rfl, rfl, rfl, rfl, rfl, rfl, rfl, rfl, rfl,
      fun n r hr => ⟨r.unbound, ?_, rfl, rfl, rfl, rfl⟩, fun n _ => ⟨?_, ?_, ?_⟩⟩
    · rw [hloss, powerLoss_on hp, pump_idle rfl rfl]
    · exact (withoutVolatile_slotAt n).trans (by rw [hr]; rfl)
    · exact congrArg Lane.ctx (withoutVolatile_laneAt n)
    · exact congrArg Lane.queue (withoutVolatile_laneAt n)
    · exact (congrArg BenchLine.contact (withoutVolatile_lineAt (s := s) n) :)
  case back =>
    obtain ⟨hold, heq, hnone, hsome⟩ := reportOff_starting (s := s)
    have hpower := (powerOn_off hp).trans heq
    refine ⟨powerOn s, by rw [hon, hpower, pump_idle rfl rfl], ?_⟩
    rw [hpower]
    exact ⟨rfl, rfl, rfl, rfl, rfl, rfl, rfl, rfl, hnone, hsome⟩
  case drained =>
    have hstart := startUpAfterRestart_drained hp hs (drained_iff.2 ⟨hd, hsend, hr, hn⟩)
    refine ⟨startUpAfterRestart s, by rw [hrestart, hstart, pump_idle rfl rfl], ?_⟩
    rw [hstart]
    exact ⟨rfl, rfl, fun q _ => cancelAll_waiting s.cipher q, rfl, rfl, rfl, rfl, rfl, rfl, rfl, rfl⟩

end Sys2Proof.Machine

namespace Sys2Proof.Machine

/-! ## The Link Port's own answers and its receiver (R172 to R175, R177): O51 -/

section
variable {s : State} {tag : Text}

/-- R172: an empty line leaves the port ready for the next. -/
theorem lineEnds_empty (hr : s.link.rx = .collecting) : lineEnds (.refused .empty) s = heard s := by
  simp [lineEnds, hr, heard]

/-- R178: a line that the port refuses is handled at once. -/
theorem linkLineRefused_handled (hr : LinkReady s) {w : RefusedLine} {t : State} (h1 : w ≠ .empty) (h2 : w ≠ .overrun)
    (ht : handleLine (.refused w) (heard s) = t) : exec (.linkLineRefused w) s = .next (pump t) :=
  congrArg finish ((lineEnds_refused hr h1 h2).trans ht)

/-- R175: in NORMAL mode a line with no known command word. -/
theorem handleLine_unknown (hm : s.mode = .normal) :
    handleLine (.refused (.unknown tag)) s = setReply ((Answer.err .unknown []).line tag) s := by
  simp [handleLine, hm]

theorem handleLine_badForm (hm : s.mode = .normal) (b : Bool) :
    handleLine (.refused (.badForm tag b)) s = setReply ((Answer.err .badSyntax []).line tag) s := by
  simp [handleLine, hm]

/-- R172: LF ends the line collected. -/
theorem linkCharacter_lf (hr : s.link.rx = .collecting) :
    linkCharacter 0x0A s = lineEnds (readLine s.link.buffer) s := by
  simp only [linkCharacter, hr]
  exact if_pos rfl

theorem linkCharacter_collects {c : Byte} (hr : s.link.rx = .collecting) (hc : c ≠ 0x0A) :
    linkCharacter c s = collectLink c s := by
  simp only [linkCharacter, hr]
  exact if_neg hc

/-- R172: the buffer has a place for 240 characters, and one more for CR. -/
theorem collectLink_room {c : Byte} (h : s.link.buffer.length < 240 ∨ (s.link.buffer.length = 240 ∧ c = 0x0D)) :
    collectLink c s = { s with link := { s.link with buffer := s.link.buffer ++ [c] } } := by
  refine if_pos ?_
  simp only [Bool.or_eq_true, Bool.and_eq_true, decide_eq_true_eq]
  exact h

theorem collectLink_full {c : Byte} (h : s.link.buffer.length = 240) (hc : c ≠ 0x0D) :
    collectLink c s = setRx .discarding s := by
  refine if_neg ?_
  simp only [Bool.or_eq_true, Bool.and_eq_true, decide_eq_true_eq, h]
  exact fun hroom => hroom.elim (by decide) fun hcr => hc hcr.2

end

/-- Settles O51: a line the port refuses is handled at once (`lineEnds_refused`); a character joins the buffer while it has
room, and LF ends the line. -/
theorem portAnswers : Obligations.PortAnswers := by
  intro s tag c hr
  have hchar (c : Byte) : exec (.linkCharacterReceived c) s = finish (linkCharacter c s) := rfl
  have hlf : linkCharacter 0x0A s = lineEnds (readLine s.link.buffer) s := linkCharacter_lf hr.1
  refine ⟨congrArg finish (lineEnds_empty hr.1), linkLineRefused_handled hr nofun nofun rfl,
    linkLineRefused_handled hr nofun nofun rfl, linkLineRefused_handled hr nofun nofun rfl,
    fun hm => ⟨?unknown, fun b => ?badForm⟩, fun hc hlen => ?room, fun hlen => ⟨?cr, fun hc hcr => ?full⟩,
    fun i hi => ?request, fun w hw => ?refused⟩
  case unknown => exact linkLineRefused_handled hr nofun nofun (handleLine_unknown (s := heard s) hm)
  case badForm => exact linkLineRefused_handled hr nofun nofun (handleLine_badForm (s := heard s) hm b)
  case room =>
    rw [hchar, linkCharacter_collects hr.1 hc, collectLink_room (.inl hlen)]
    rfl
  case cr =>
    rw [hchar, linkCharacter_collects hr.1 (by decide), collectLink_room (.inr ⟨hlen, rfl⟩)]
    rfl
  case full =>
    rw [hchar, linkCharacter_collects hr.1 hc, collectLink_full hlen hcr]
    rfl
  case request =>
    rw [hchar, hlf, hi]
    rfl
  case refused =>
    rw [hchar, hlf, hw]
    rfl

end Sys2Proof.Machine

namespace Sys2Proof.Machine

/-! ## STATUS, RESTART and ACKNOWLEDGE-TAMPER (R181, R182, R187): O57 -/

section
variable {s : State} {tag : Text}

/-- R175, step 4: STATUS comes to its owner in either mode. -/
theorem serveRuns_status : serveRuns (.status tag) s = setReply ((status s).1.line tag) s := by
  simp only [serveRuns, serveKeys, request, Bool.not_true, Bool.and_false, Bool.false_eq_true, if_false, admitted]
  rfl

theorem allAtRest_iff :
    allAtRest s = true ↔ ∀ l ∈ s.lanes.toList, (l.state = .idle ∨ l.state = .offline) ∧ l.queue = [] := by
  simp only [allAtRest, List.all_eq_true, Bool.and_eq_true, Bool.or_eq_true, decide_eq_true_eq, List.isEmpty_iff]

/-- R182: a lane that is HELD or RUNNING, or has a request, is not at rest. -/
theorem allAtRest_false (h : ∃ l ∈ s.lanes.toList, l.state = .held ∨ l.state = .running ∨ l.queue ≠ []) :
    ¬ allAtRest s = true := by
  obtain ⟨l, hl, hbusy⟩ := h
  intro hrest
  obtain ⟨hstate, hqueue⟩ := allAtRest_iff.1 hrest l hl
  rcases hbusy with h | h | h
  · simp [h] at hstate
  · simp [h] at hstate
  · exact h hqueue

theorem restart_rest (h : allAtRest s = true) :
    restart s = (.ok [.word "RESTARTING"], { s with link := s.link.closing }) := if_pos h

theorem restart_busy (h : ¬ allAtRest s = true) : restart s = refuse .busy s := if_neg h

theorem acknowledgeTamper_set (h : s.latch = true) :
    acknowledgeTamper s = (.ok [.field "TAMPER" (.word "CLEAR")], { s with latch := false }) := if_pos h

theorem acknowledgeTamper_clear (h : s.latch = false) : acknowledgeTamper s = refuse .wrongState s :=
  if_neg (by simp [h])

end

/-- Settles O57: STATUS by its owner's answer in either mode, the other two by their one check. -/
theorem statusRestartAcknowledge : Obligations.StatusRestartAcknowledge := by
  intro s tag
  refine ⟨fun hr => ?status, fun hs => ⟨fun hrest => ?rest, fun hbusy => ?busy⟩,
    fun hs => ⟨fun hset => ?set, fun hclear => ?clear⟩⟩
  case status =>
    change requestLine (.status tag) s = _
    rw [requestLine, lineEnds_ready hr, serveRuns_status]
    rfl
  case rest => exact operator_ok hs restart rfl (restart_rest (allAtRest_iff.2 hrest))
  case busy => exact operator_err hs restart rfl (restart_busy (s := heard s) (allAtRest_false hbusy))
  case set => exact custodian_ok hs acknowledgeTamper rfl (acknowledgeTamper_set (by simpa using hset))
  case clear => exact custodian_err hs acknowledgeTamper rfl (acknowledgeTamper_clear (by simpa using hclear))

end Sys2Proof.Machine

namespace Sys2Proof.Machine

/-! ## Numbers as they are written and read (R173, R174) -/

section
variable {w n : Nat}

theorem hexVal_hexDigit (h : n < 16) : hexVal (hexDigit n) = n := by
  have all : ∀ n < 16, hexVal (hexDigit n) = n := by decide
  exact all n h

theorem isUpperHex_hexDigit (h : n < 16) : isUpperHex (hexDigit n) = true := by
  have all : ∀ n < 16, isUpperHex (hexDigit n) = true := by decide
  exact all n h

@[simp] theorem hexW_length : (hexW w n).length = w := by simp [hexW]

/-- The last hex digit is the number's remainder by 16. -/
theorem hexW_succ : hexW (w + 1) n = hexW w (n / 16) ++ [hexDigit (n % 16)] := by
  simp only [hexW, List.range_succ_eq_map, List.reverse_cons, List.map_append, List.map_reverse, List.map_map]
  simp [Function.comp_def, pow_succ', Nat.div_div_eq_div_mul]

theorem hexW_upperHex : (hexW w n).all isUpperHex = true := by
  simp only [hexW, List.all_map, List.all_eq_true]
  exact fun i _ => isUpperHex_hexDigit (Nat.mod_lt _ (by decide))

theorem hexNum_hexW : hexNum (hexW w n) = n % 16 ^ w := by
  induction w generalizing n with
  | zero => simp [hexNum, hexW, Nat.mod_one]
  | succ w ih =>
    have hlast : hexNum (hexW (w + 1) n) = hexNum (hexW w (n / 16)) * 16 + hexVal (hexDigit (n % 16)) := by
      rw [hexW_succ, hexNum, List.foldl_append]
      rfl
    rw [hlast, ih, hexVal_hexDigit (Nat.mod_lt n (by decide)), pow_succ', Nat.mod_mul]
    ring

/-- R173: the four digits of a check tell it. -/
theorem hexNum_hexW_check (v : BitVec 16) : hexNum (hexW 4 v.toNat) = v.toNat :=
  hexNum_hexW.trans (Nat.mod_eq_of_lt v.isLt)

/-- The characters of a decimal number. -/
theorem toDigits_char {c : Char} (h : c ∈ Nat.toDigits 10 n) : 48 ≤ c.toNat ∧ c.toNat ≤ 57 := by
  have hd := Nat.isDigit_of_mem_toDigits (by decide) (by decide) h
  simpa [Char.isDigit, UInt32.le_iff_toNat_le] using hd

theorem dec_digits : (dec n).all isDigit = true := by
  simp only [dec, List.all_map, List.all_eq_true]
  intro c hc
  obtain ⟨h1, h2⟩ := toDigits_char hc
  have hbyte : (BitVec.ofNat 8 c.toNat).toNat = c.toNat := Nat.mod_eq_of_lt (by omega)
  simp only [Function.comp, isDigit, hbyte, Bool.and_eq_true, decide_eq_true_eq]
  exact ⟨h1, h2⟩

theorem dec_length (h : n < 10 ^ 8) : 1 ≤ (dec n).length ∧ (dec n).length ≤ 8 := by
  rw [dec, List.length_map]
  exact ⟨Nat.length_toDigits_pos, (Nat.length_toDigits_le_iff (by decide) (by decide)).2 h⟩

theorem decVal_dec : decVal (dec n) = n := by
  calc decVal (dec n)
      = (Nat.toDigits 10 n).foldl (fun a c => 10 * a + (c.toNat - '0'.toNat)) 0 := by
        rw [decVal, dec, List.foldl_map]
        refine List.foldl_ext _ _ _ fun a c hc => ?_
        have hbyte : (BitVec.ofNat 8 c.toNat).toNat = c.toNat :=
          Nat.mod_eq_of_lt (by have := (toDigits_char hc).2; omega)
        rw [hbyte, Nat.mul_comm]
        rfl
    _ = n := by rw [← Nat.ofDigitChars_eq_foldl, Nat.ofDigitChars_ten_toDigits]

theorem readNum_dec (h : n < 10 ^ 8) : readNum 8 (dec n) = some n := by
  obtain ⟨h1, h8⟩ := dec_length h
  rw [readNum, if_pos (by simp [h1, h8, dec_digits]), decVal_dec]

end

end Sys2Proof.Machine

namespace Sys2Proof.Machine

/-! ## The check suffix (R172, R173) -/

section
variable {t : Text} (v : BitVec 16)

/-- R173: a line as it stands before its CR: over its characters and one space, the check. -/
def checkedLine (t : Text) (v : BitVec 16) : Text := t ++ [chSpace, chStar] ++ hexW 4 v.toNat

theorem checkedLine_length : (checkedLine t v).length = t.length + 6 := by simp [checkedLine]

theorem checkAgrees_checkedLine (ht : t ≠ []) :
    checkAgrees (checkedLine t v) = decide (crc16 0xFFFF#16 (t ++ [chSpace]) = v) := by
  have hpos : 1 ≤ t.length := List.length_pos_iff.2 ht
  have hdigits : (checkedLine t v).drop (t.length + 2) = hexW 4 v.toNat :=
    List.drop_left' (by simp)
  have hmark : ((checkedLine t v).drop t.length).take 2 = [chSpace, chStar] := by
    rw [checkedLine, List.append_assoc, List.drop_left]
    rfl
  have hcovered : (checkedLine t v).take (t.length + 1) = t ++ [chSpace] := by
    rw [show checkedLine t v = (t ++ [chSpace]) ++ (chStar :: hexW 4 v.toNat) by simp [checkedLine]]
    exact List.take_left' (by simp)
  have h4 : t.length + 6 - 4 = t.length + 2 := rfl
  have h5 : t.length + 6 - 5 = t.length + 1 := rfl
  have h6 : t.length + 6 - 6 = t.length := rfl
  simp only [checkAgrees, checkedLine_length, h4, h5, h6, hdigits, hmark, hcovered, hexW_upperHex, hexNum_hexW_check,
    ← BitVec.toNat_eq]
  simp [hpos]

/-- R172, R173: a line with its CR is read for its request where the check agrees. -/
theorem readLine_checkedLine (ht : t ≠ []) : readLine (checkedLine t v ++ [chCR]) =
    if crc16 0xFFFF#16 (t ++ [chSpace]) = v then readRequest t else .refused .badCheck := by
  have hbody : (checkedLine t v).take ((checkedLine t v).length - 6) = t := by
    rw [checkedLine_length, checkedLine, List.append_assoc]
    exact List.take_left
  have hsome : (checkedLine t v).isEmpty = false := by simp [checkedLine]
  simp only [readLine, List.getLast?_concat, List.dropLast_concat, hsome, hbody, checkAgrees_checkedLine v ht]
  by_cases h : crc16 0xFFFF#16 (t ++ [chSpace]) = v <;> simp [h]

end

end Sys2Proof.Machine

namespace Sys2Proof.Machine

/-! ## The words and arguments of a line (R174, R175) -/

section
variable {a b t : Text}

/-- A printable character that ends no word. -/
def isWordChar (c : Byte) : Bool := isPrintable c && notSpace c

theorem notSpace_of_word (h : a.all isWordChar = true) : ∀ c ∈ a, notSpace c = true := fun c hc =>
  (Bool.and_eq_true_iff.1 (List.all_eq_true.1 h c hc)).2

theorem isPrintable_of_word (h : a.all isWordChar = true) : a.all isPrintable = true :=
  List.all_eq_true.2 fun c hc => (Bool.and_eq_true_iff.1 (List.all_eq_true.1 h c hc)).1

theorem isWordChar_of_isDigit {c : Byte} (h : isDigit c = true) : isWordChar c = true ∧ c ≠ chQuote := by
  have all : ∀ c : Byte, isDigit c = true → isWordChar c = true ∧ c ≠ chQuote := by decide +kernel
  exact all c h

theorem digits_word (h : a.all isDigit = true) : a.all isWordChar = true :=
  List.all_eq_true.2 fun c hc => (isWordChar_of_isDigit (List.all_eq_true.1 h c hc)).1

/-- A word ends at the space that follows it. -/
theorem takeWhile_word (h : a.all isWordChar = true) : (a ++ chSpace :: t).takeWhile notSpace = a := by
  rw [List.takeWhile_append_of_pos (notSpace_of_word h), List.takeWhile_cons_of_neg (by decide), List.append_nil]

theorem doubleSpace_cons {c : Byte} (h : notSpace c = true) : doubleSpace (c :: t) = doubleSpace t := by
  have hc : c ≠ chSpace := by simpa [notSpace] using h
  cases t <;> simp [doubleSpace, hc]

/-- R174: no two spaces stand together within a word. -/
theorem doubleSpace_word (h : a.all isWordChar = true) : doubleSpace (a ++ t) = doubleSpace t := by
  have hspace := notSpace_of_word h
  clear h
  induction a with
  | nil => rfl
  | cons c a ih =>
    obtain ⟨hc, ha⟩ := List.forall_mem_cons.1 hspace
    exact (doubleSpace_cons hc).trans (ih ha)

/-- R174: a word after one space. -/
theorem doubleSpace_next (h : a.all isWordChar = true) (hne : a ≠ []) :
    doubleSpace (chSpace :: (a ++ t)) = doubleSpace t := by
  obtain ⟨c, a, rfl⟩ := List.exists_cons_of_ne_nil hne
  have hc : c ≠ chSpace := by simpa [notSpace] using notSpace_of_word h c (List.mem_cons_self ..)
  rw [← doubleSpace_word (t := t) h]
  simp [doubleSpace, hc]

/-- R174: the tag. -/
theorem readTag_digits (hd : a.all isDigit = true) (h1 : 1 ≤ a.length) (h4 : a.length ≤ 4) :
    readTag (a ++ chSpace :: t) = some a := by
  have htake : (a ++ chSpace :: t).takeWhile isDigit = a := by
    rw [List.takeWhile_append_of_pos (List.all_eq_true.1 hd), List.takeWhile_cons_of_neg (by decide), List.append_nil]
  simp [readTag, htake, h1, h4]

/-- R174: a plain value at the line's end. -/
theorem readValue_digits (hd : a.all isDigit = true) : readValue a = some (a, []) := by
  have hword := notSpace_of_word (digits_word hd)
  have hquote : chQuote ∉ a := fun hc => (isWordChar_of_isDigit (List.all_eq_true.1 hd _ hc)).2 rfl
  have hhead : a.head? ≠ some chQuote := fun hh => hquote (List.mem_of_head? hh)
  simp [readValue, hhead, List.takeWhile_eq_self_iff.2 hword, List.dropWhile_eq_nil_iff.2 hword, hquote]

/-- R174: SLOT and its number. -/
theorem readArg_slot (hd : a.all isDigit = true) : readArg (txt "SLOT=" ++ a) = some ((txt "SLOT", a), []) := by
  have htext : txt "SLOT=" ++ a = txt "SLOT" ++ chEq :: a := rfl
  have hname : (txt "SLOT" ++ chEq :: a).takeWhile (fun c => c ≠ chEq && c ≠ chSpace) = txt "SLOT" := by
    rw [List.takeWhile_append_of_pos (by decide), List.takeWhile_cons_of_neg (by decide), List.append_nil]
  have hne : (txt "SLOT").isEmpty = false := by decide
  rw [htext]
  simp only [readArg, hname, List.drop_left]
  simp [hne, readValue_digits hd]

/-- R174: a line of three words has no two spaces together. -/
theorem doubleSpace_words {c : Text} (ha : a.all isWordChar = true) (hb : b.all isWordChar = true) (hbne : b ≠ [])
    (hc : c.all isWordChar = true) (hcne : c ≠ []) :
    doubleSpace (a ++ chSpace :: (b ++ chSpace :: c)) = false := by
  rw [doubleSpace_word ha, doubleSpace_next hb hbne, ← List.append_nil c, doubleSpace_next hc hcne]
  rfl

theorem printable_words {c : Text} (ha : a.all isWordChar = true) (hb : b.all isWordChar = true)
    (hc : c.all isWordChar = true) : (a ++ chSpace :: (b ++ chSpace :: c)).all isPrintable = true := by
  simp only [List.all_append, List.all_cons, isPrintable_of_word ha, isPrintable_of_word hb, isPrintable_of_word hc]
  decide

/-- R174, step 6: the form of a line whose one argument is a slot's number. -/
theorem readForm_slot {tag word num : Text} (htag : tag.all isDigit = true) (hword : word.all isWordChar = true)
    (hne : word ≠ []) (hnum : num.all isDigit = true) :
    readForm (tag ++ chSpace :: (word ++ chSpace :: (txt "SLOT=" ++ num))) (chSpace :: (txt "SLOT=" ++ num)) ["SLOT"] =
      some [(txt "SLOT", num)] := by
  have harg : (txt "SLOT=" ++ num).all isWordChar = true := by
    rw [List.all_append, digits_word hnum]
    decide
  have hargne : txt "SLOT=" ++ num ≠ [] := List.append_ne_nil_of_left_ne_nil (by decide) _
  have hargs (k : Nat) : readArgs (k + 1) (chSpace :: (txt "SLOT=" ++ num)) = some [(txt "SLOT", num)] := by
    simp [readArgs, readArg_slot hnum]
  have hfit : namesFit ["SLOT"] [(txt "SLOT", num)] = true := rfl
  rw [readForm, if_neg, List.length_cons, hargs, Option.filter_some, if_pos hfit]
  simp [printable_words (digits_word htag) hword harg, doubleSpace_words (digits_word htag) hword hne harg hargne]

end

/-- Table 10-4: a command of the catalogue whose one argument is SLOT. -/
def slotCommand (word : String) (make : Text → Arg Nat → Instr) : Command :=
  ⟨word, ["SLOT"], fun t f => make t (f.num "SLOT")⟩

section
variable {tag : Text} {n : Nat} {word : String} {make : Text → Arg Nat → Instr}

/-- A request of one slot number as the manual writes it, without its check suffix. -/
def slotText (tag : Text) (word : String) (n : Nat) : Text :=
  tag ++ chSpace :: (txt word ++ chSpace :: (txt "SLOT=" ++ dec n))

theorem slotText_ne : slotText tag word n ≠ [] := List.append_ne_nil_of_right_ne_nil _ nofun

theorem slotCommand_make (hn : n < 10 ^ 8) :
    (slotCommand word make).make tag [(txt "SLOT", dec n)] = make tag (.val n) := by
  have hget : Fields.num [(txt "SLOT", dec n)] "SLOT" = .val n := by
    change argOf (readNum 8) (some (dec n)) = _
    rw [argOf, readNum_dec hn]
  exact congrArg (make tag) hget

/-- R174, R175: the tag, the command word and the argument of such a request. -/
theorem readRequest_slotText (h1 : 1 ≤ tag.length) (h4 : tag.length ≤ 4) (htag : tag.all isDigit = true)
    (hn : n < 10 ^ 8) (hword : (txt word).all isWordChar = true) (hne : txt word ≠ [])
    (hfind : (catalogue.find? fun x => txt x.word = txt word) = some (slotCommand word make)) :
    readRequest (slotText tag word n) = .request (make tag (.val n)) := by
  have hrest (a t : Text) : (a ++ chSpace :: t).drop (a.length + 1) = t := by simp
  have hform : readForm (slotText tag word n) (chSpace :: (txt "SLOT=" ++ dec n)) (slotCommand word make).takes = _ :=
    readForm_slot htag hword hne dec_digits
  rw [slotText] at hform ⊢
  simp only [readRequest, readTag_digits htag h1 h4, hrest, takeWhile_word hword, hfind, List.drop_left, hform,
    slotCommand_make hn]

/-- R173: with its check suffix the line is that request; with another check it is refused. -/
theorem readLine_slot (h1 : 1 ≤ tag.length) (h4 : tag.length ≤ 4) (htag : tag.all isDigit = true)
    (hn : n < 10 ^ 8) (hword : (txt word).all isWordChar = true) (hne : txt word ≠ [])
    (hfind : (catalogue.find? fun x => txt x.word = txt word) = some (slotCommand word make)) {line : Text}
    (hline : line = tag ++ txt " " ++ txt word ++ txt " SLOT=" ++ dec n ++ txt " ") :
    readLine (line ++ txt "*" ++ hexW 4 (crc16 0xFFFF#16 line).toNat ++ [0x0D]) = .request (make tag (.val n)) ∧
    (∀ v : BitVec 16, v ≠ crc16 0xFFFF#16 line →
      readLine (line ++ txt "*" ++ hexW 4 v.toNat ++ [0x0D]) = .refused .badCheck) := by
  have hspace : txt " " = [chSpace] := rfl
  have hslot : txt " SLOT=" = chSpace :: txt "SLOT=" := rfl
  have hcovered : line = slotText tag word n ++ [chSpace] := by
    rw [hline, hspace, hslot, slotText]
    simp only [List.append_assoc, List.cons_append, List.nil_append]
  have hwire (v : BitVec 16) :
      line ++ txt "*" ++ hexW 4 v.toNat ++ [0x0D] = checkedLine (slotText tag word n) v ++ [chCR] := by
    rw [hcovered, checkedLine, List.append_assoc (slotText ..)]
    rfl
  refine ⟨?agrees, fun v hv => ?other⟩
  case agrees =>
    rw [hwire, readLine_checkedLine _ slotText_ne, ← hcovered, if_pos rfl]
    exact readRequest_slotText h1 h4 htag hn hword hne hfind
  case other => rw [hwire, readLine_checkedLine _ slotText_ne, ← hcovered, if_neg hv.symm]

end

/-- Settles O53: each word is found in the catalogue, and the line is read part by part (`readLine_slot`). -/
theorem requestLinesRead : Obligations.RequestLinesRead := by
  intro tag n word i line h1 h4 htag hn hmem hline
  have hread {make : Text → Arg Nat → Instr} :=
    readLine_slot (word := word) (make := make) h1 h4 htag hn (hline := hline)
  simp only [List.mem_cons, Prod.mk.injEq, List.not_mem_nil, or_false] at hmem
  obtain ⟨rfl, rfl⟩ | ⟨rfl, rfl⟩ | ⟨rfl, rfl⟩ | ⟨rfl, rfl⟩ | ⟨rfl, rfl⟩ := hmem
  · exact hread (make := .suspendSlot) (by decide) (by decide) rfl
  · exact hread (make := .resumeSlot) (by decide) (by decide) rfl
  · exact hread (make := .eraseSlot) (by decide) (by decide) rfl
  · exact hread (make := .readSlot) (by decide) (by decide) rfl
  · exact hread (make := .readIssue) (by decide) (by decide) rfl

end Sys2Proof.Machine

namespace Sys2Proof.Machine

/-! ## What stands outside every run, through the events of the lanes and their lines -/

section
variable (n : Nat) (s : State)

@[simp] theorem endDelivery_outside (p : DeliveryPhase) (w : Option Refuse) :
    (endDelivery n p w s).outside = s.outside := by
  unfold endDelivery
  split
  · rfl
  · split <;> simp

@[simp] theorem failFrame_outside (o : Outcome) (p : DeliveryPhase) (w : Option Refuse) :
    (failFrame n o p w s).1.outside = s.outside := by
  unfold failFrame
  split <;> simp

@[simp] theorem noteStep_outside (k : NoteKind) : (noteStep n k s).1.outside = s.outside := by simp [noteStep]

@[simp] theorem takeWait_outside (c : RunContext) (st : Step) : (takeWait n c st s).1.outside = s.outside := by
  unfold takeWait
  split <;> simp

@[simp] theorem takeAccept_outside (c : RunContext) (p : Nat) (v : CheckValue) :
    (takeAccept n c p v s).1.outside = s.outside := by
  unfold takeAccept
  split
  · simp
  · split_ifs <;> simp

@[simp] theorem takeCheck_outside (c : RunContext) (st : Step) (p : Nat) (v : CheckValue) :
    (takeCheck n c st p v s).1.outside = s.outside := by
  unfold takeCheck
  split_ifs <;> simp

@[simp] theorem takeReply_outside (r : BenchReply) : (takeReply n r s).1.outside = s.outside := by
  unfold takeReply
  split
  · rfl
  · split
    · rfl
    · split <;> simp

@[simp] theorem timerExpiry_outside : (timerExpiry n s).outside = s.outside := by
  unfold timerExpiry
  split
  · dsimp only
    split
    · simp
    · simp
    · rfl
    · split <;> simp
  · rfl

@[simp] theorem terminalArrived_outside : (terminalArrived n s).outside = s.outside := by
  unfold terminalArrived
  split
  · rfl
  · split <;> simp

@[simp] theorem terminalRemoved_outside : (terminalRemoved n s).outside = s.outside := by
  unfold terminalRemoved
  dsimp only
  split
  · simp
  · split <;> simp

@[simp] theorem settleExpiry_outside : (settleExpiry n s).outside = s.outside := by
  unfold settleExpiry
  split
  · rfl
  · dsimp only
    split <;> simp

@[simp] theorem frameArrived_outside (k : Byte) (b : Text) (c : BitVec 16) (x : Bool) :
    (frameArrived n k b c x s).outside = s.outside := by
  unfold frameArrived
  split_ifs <;> simp

@[simp] theorem overlongHeader_outside : (overlongHeader n s).outside = s.outside := by
  unfold overlongHeader
  split <;> rfl

@[simp] theorem benchFrame_outside (k : Byte) (b : Text) (c : BitVec 16) (x : Bool) :
    (benchFrame n k b c x s).outside = s.outside := by
  unfold benchFrame
  split_ifs <;> simp

@[simp] theorem benchCharacter_outside (c : Byte) (p x : Bool) : (benchCharacter n c p x s).outside = s.outside := by
  unfold benchCharacter
  dsimp only
  split
  · rfl
  · split <;> rfl
  · unfold collectChar
    dsimp only
    split_ifs <;> simp

@[simp] theorem gapExpiry_outside : (gapExpiry n s).outside = s.outside := by
  unfold gapExpiry
  split <;> rfl

@[simp] theorem contactChange_outside (b : Bool) : (contactChange n b s).outside = s.outside := by
  unfold contactChange
  split_ifs <;> rfl

@[simp] theorem beginWaiting_outside : (beginWaiting n s).outside = s.outside := by
  unfold beginWaiting
  split <;> simp

@[simp] theorem loadStepTimer_outside (f : OutFrame) : (loadStepTimer n f s).outside = s.outside := by
  unfold loadStepTimer
  split
  · rfl
  · split <;> simp

@[simp] theorem transmitEnd_outside : (transmitEnd n s).outside = s.outside := by
  unfold transmitEnd
  split <;> simp

@[simp] theorem retryReservation_outside : (retryReservation n s).outside = s.outside := by
  unfold retryReservation
  split
  · exact startAt_outside ..
  · rfl

@[simp] theorem tamperLane_outside : (tamperLane n s).outside = s.outside := by
  unfold tamperLane
  split
  · simp [runEnd_outside]
  · simp
  · rfl
  · rfl

@[simp] theorem tamperLine_outside : (tamperLine n s).outside = s.outside := rfl

@[simp] theorem tamperLanes_outside : (tamperLanes s).outside = s.outside := by
  unfold tamperLanes
  induction List.range 8 generalizing s with
  | nil => rfl
  | cons n l ih => exact (ih _).trans (by simp)

@[simp] theorem abortRun_outside : (abortRun n s).2.outside = s.outside := by
  unfold abortRun
  split
  · rfl
  · split <;> simp

@[simp] theorem abortHeld_outside : (abortHeld n s).outside = s.outside := by
  unfold abortHeld
  dsimp only
  split <;> simp

@[simp] theorem keyFaults_outside (l : List FaultNote) : (keyFaults l s).outside = s.outside := by
  induction l generalizing s with
  | nil => rfl
  | cons f l ih =>
    obtain ⟨q, o, k⟩ := f
    unfold keyFaults
    rw [ih]
    split <;> simp

@[simp] theorem unitFree_outside : (unitFree s).outside = s.outside := by
  obtain ⟨u, hu⟩ := serveWaiting_cipher { s with cipher := { s.cipher with executing := none } } 10
  unfold unitFree
  dsimp only
  rw [keyFaults_outside, hu]
  rfl

end

/-- No run touches the queue of commands. -/
theorem pending_of_outside {s t : State} (h : t.outside = s.outside) : t.pending = s.pending := by
  simp only [State.outside, Prod.mk.injEq] at h
  obtain ⟨-, -, -, -, -, -, -, -, -, -, hpending⟩ := h
  exact hpending

end Sys2Proof.Machine

namespace Sys2Proof.Machine

/-! ## The queue of commands through the blocks -/

section
variable (s : State)

@[simp] theorem raiseNotice_pending (l : Line) : (raiseNotice l s).pending = s.pending := by rw [raiseNotice_eq]
@[simp] theorem raiseMessage_pending (l : Line) : (raiseMessage l s).pending = s.pending := by rw [raiseMessage_eq]
@[simp] theorem raiseBoth_pending (l : Line) : (raiseBoth l s).pending = s.pending := by rw [raiseBoth_eq]
@[simp] theorem goOn_pending (n : Nat) (r : State × StepEnd) : (goOn n r).pending = r.1.pending :=
  pending_of_outside (goOn_outside n r)
@[simp] theorem startAt_pending (n : Nat) : (startAt n s).pending = s.pending :=
  pending_of_outside (startAt_outside n s)
@[simp] theorem unitFree_pending : (unitFree s).pending = s.pending := pending_of_outside (unitFree_outside s)
@[simp] theorem post_pending (q : Nat) (r : CipherRequest) : (post q r s).1.pending = s.pending :=
  pending_of_outside (post_outside s q r)
@[simp] theorem takeOutput_pending (r : LaneRequest) (n : Nat) (i : CipherInput) :
    (takeOutput r n i s).1.pending = s.pending := pending_of_outside (takeOutput_outside s n r i)

@[simp] theorem setCustodian_pending (id : Nat) (c : Option Custodian) : (s.setCustodian id c).pending = s.pending := by
  unfold State.setCustodian
  split <;> rfl

@[simp] theorem warnAfterThreshold_pending (n : Nat) (a : Account) :
    (warnAfterThreshold n a s).2.pending = s.pending := by
  obtain ⟨armed, ls, hw⟩ := warnAfterThreshold_eq n a s
  obtain ⟨k, hk⟩ := raiseAll_eq ls (s.setAccount n (some { a with armed := armed }))
  rw [hw, hk]
  rfl

@[simp] theorem cancelAssembly_pending (cause : String) : (cancelAssembly cause s).pending = s.pending := by
  unfold cancelAssembly
  split <;> simp

@[simp] theorem discardHeld_pending (id : Nat) : (discardHeld id s).pending = s.pending := by
  unfold discardHeld
  split
  · rfl
  · split
    · rfl
    · split
      · rfl
      · dsimp only
        rw [raiseMessage_pending, State.setAsm_pending]
        split <;> split <;> rfl

@[simp] theorem dropSession_pending (id : Nat) : (dropSession id s).pending = s.pending := by simp [dropSession]

@[simp] theorem rederive_pending (cause : String) : (rederive cause s).pending = s.pending := by
  unfold rederive
  dsimp only
  split
  · rfl
  · split <;> simp

@[simp] theorem dualExpiry_pending : (dualExpiry s).pending = s.pending := by
  have drop (l : List Nat) : ∀ u : State, (l.foldl (fun t id => dropSession id t) u).pending = u.pending := by
    induction l with
    | nil => exact fun _ => rfl
    | cons id l ih => exact fun u => (ih _).trans (dropSession_pending u id)
  unfold dualExpiry
  split
  · rfl
  · rw [rederive_pending, drop]

end

/-- A request that leaves the queue of commands as it is. -/
abbrev EndsPending (s : State) : Answer × State → Prop := Ends fun t => t.pending = s.pending

/-! ### The requests -/

section requests
variable (s : State)

theorem suspendSlot_pending (n : Arg Nat) : EndsPending s (suspendSlot n s) := by
  refine .index rfl fun n _ => ?_
  split
  · exact .ite (fun _ => rfl) fun _ => rfl
  · rfl

theorem resumeSlot_pending (n : Arg Nat) : EndsPending s (resumeSlot n s) := by
  refine .index rfl fun n _ => ?_
  split
  · exact .ite (fun _ => rfl) fun _ => rfl
  · rfl

theorem eraseSlot_pending (n : Arg Nat) : EndsPending s (eraseSlot n s) := by
  refine .index rfl fun n _ => ?_
  split
  · exact .ite (fun _ => rfl) fun _ => .ite (fun _ => rfl) fun _ => rfl
  · rfl

theorem setBudget_pending (n : Arg Nat) (b : Arg Budget) : EndsPending s (setBudget n b s) := by
  refine .num rfl fun n => .need rfl fun v => .ite (fun _ => rfl) fun _ => .below rfl fun _ =>
    .ite (fun _ => rfl) fun _ => ?_
  split
  · split
    · exact .ite (fun _ => rfl) fun _ => .ite (fun _ => rfl) fun _ => rfl
    · rfl
  · rfl

theorem setScrub_pending (v : Arg Nat) : EndsPending s (setScrub v s) := .num rfl fun _ => rfl

theorem enrolCustodian_pending (id : Arg Nat) (g : Arg Group) (l : Arg Text) :
    EndsPending s (enrolCustodian id g l s) := by
  have h : (restartDual s).pending = s.pending := restartDual_pending
  refine .num h fun n => .ite (fun _ => h) fun _ => .need h fun g => .opt h fun l => .ite (fun _ => h) fun _ => ?_
  split
  · exact h
  · exact (setCustodian_pending ..).trans h

theorem removeCustodian_pending (id : Arg Nat) : EndsPending s (removeCustodian id s) := by
  refine .num rfl fun n => .ite (fun _ => rfl) fun _ => ?_
  split
  · rfl
  · exact .ite (fun _ => rfl) fun _ => setCustodian_pending ..

theorem unlockCustodian_pending (id : Arg Nat) : EndsPending s (unlockCustodian id s) := by
  refine .num rfl fun n => .ite (fun _ => rfl) fun _ => ?_
  split
  · rfl
  · exact .ite (fun _ => setCustodian_pending ..) fun _ => rfl

theorem setDualWindow_pending (v : Arg Nat) : EndsPending s (setDualWindow v s) := .num rfl fun _ => restartDual_pending
theorem setParityPolicy_pending (p : Arg Policy) : EndsPending s (setParityPolicy p s) := .need rfl fun _ => rfl

theorem assembleBegin_pending (a : AssembleArgs) : EndsPending s (assembleBegin a s) := by
  refine .num rfl fun slot => .need rfl fun cls => .need rfl fun fam => .num rfl fun len => .num rfl fun parts =>
    .opt rfl fun cv => .opt rfl fun lab => .optNum rfl fun kver => .opt rfl fun budget => .ite (fun _ => rfl) fun _ =>
    .ite (fun _ => rfl) fun _ => ?_
  split
  · rfl
  · exact .ite (fun _ => rfl) fun _ => .ite (fun _ => rfl) fun _ => .ite (fun _ => rfl) fun _ => rfl

theorem assembleCancel_pending : EndsPending s (assembleCancel s) := by
  unfold assembleCancel
  split
  · rfl
  · exact cancelAssembly_pending ..

theorem openIssue_pending (n : Arg Nat) (p : Arg (BitVec 24)) (f l st th : Arg Nat) :
    EndsPending s (openIssue n p f l st th s) := by
  refine .num rfl fun n => .need rfl fun p => .num rfl fun f => .num rfl fun l => .optNum rfl fun st =>
    .optNum rfl fun th => .below rfl fun _ => .ite (fun _ => rfl) fun _ => ?_
  split
  · rfl
  · exact .ite (fun _ => rfl) fun _ => .ite (fun _ => rfl) fun _ => warnAfterThreshold_pending ..

theorem extendIssue_pending (n l : Arg Nat) : EndsPending s (extendIssue n l s) := by
  refine .num rfl fun n => .num rfl fun v => .below rfl fun _ => .ite (fun _ => rfl) fun _ => ?_
  split
  · rfl
  · exact .ite (fun _ => rfl) fun _ => rfl

theorem setIssueWarning_pending (n th : Arg Nat) : EndsPending s (setIssueWarning n th s) := by
  refine .num rfl fun n => .num rfl fun v => .below rfl fun _ => ?_
  split
  · rfl
  · exact warnAfterThreshold_pending ..

theorem restart_pending : EndsPending s (restart s) := .ite (fun _ => rfl) fun _ => rfl
theorem acknowledgeTamper_pending : EndsPending s (acknowledgeTamper s) := .ite (fun _ => rfl) fun _ => rfl

theorem editPlanStep_pending (b : Bool) (p k : Arg Nat) (kd : Arg StepKind) (a : StepArgs) (x : Bool) :
    EndsPending s (editPlanStep b p k kd a x s) :=
  .index rfl fun _ _ => .num rfl fun _ => .need rfl fun _ => .ite (fun _ => rfl) fun _ =>
    .ite (fun _ => rfl) fun _ => rfl

theorem editPlanDelete_pending (p k : Arg Nat) (x : Bool) : EndsPending s (editPlanDelete p k x s) :=
  .index rfl fun _ _ => .num rfl fun _ => .ite (fun _ => rfl) fun _ => .ite (fun _ => rfl) fun _ => rfl

theorem editPlanLabel_pending (p : Arg Nat) (l : Arg Text) (x : Bool) : EndsPending s (editPlanLabel p l x s) :=
  .index rfl fun _ _ => .opt rfl fun _ => .ite (fun _ => rfl) fun _ => rfl

theorem discardDraft_pending (p : Arg Nat) : EndsPending s (discardDraft p s) :=
  .index rfl fun _ _ => .ite (fun _ => rfl) fun _ => rfl

theorem installPlan_pending (p : Arg Nat) : EndsPending s (installPlan p s) := by
  refine .index rfl fun n _ => ?_
  dsimp only
  split
  · rfl
  · split
    · rfl
    · exact .ite (fun _ => rfl) fun _ => rfl

theorem removePlan_pending (p : Arg Nat) : EndsPending s (removePlan p s) :=
  .index rfl fun _ _ => .ite (fun _ => rfl) fun _ => .ite (fun _ => rfl) fun _ => rfl

theorem setWindow_pending (a : WindowArgs) (lv : Level) : EndsPending s (setWindow a lv s) := by
  refine .num rfl fun n => .need rfl fun k => .need rfl fun m => .optNum rfl fun f => .optNum rfl fun p =>
    .opt rfl fun e => .opt rfl fun o => ?_
  split
  · rfl
  · exact .ite (fun _ => rfl) fun _ => .ite (fun _ => rfl) fun _ => .ite (fun _ => rfl) fun _ =>
      .ite (fun _ => rfl) fun _ => rfl

theorem setWindowEnabled_pending (w : Arg Nat) (e : Arg Bool) (x : Bool) (lv : Level) :
    EndsPending s (setWindowEnabled w e x lv s) := by
  refine .num rfl fun n => .need rfl fun e => .ite (fun _ => rfl) fun _ => .below rfl fun _ =>
    .ite (fun _ => rfl) fun _ => ?_
  split <;> rfl

theorem clearWindow_pending (w : Arg Nat) (lv : Level) : EndsPending s (clearWindow w lv s) :=
  .index rfl fun _ _ => .ite (fun _ => rfl) fun _ => .ite (fun _ => rfl) fun _ => rfl

theorem setDefaultRoute_pending (r : Arg DefaultRoute) : EndsPending s (setDefaultRoute r s) := by
  refine .need rfl fun r => ?_
  cases r with
  | reject => rfl
  | plan p => exact .ite (fun _ => rfl) fun _ => .below rfl fun _ => rfl

@[simp] theorem setOnline_pending (n : Nat) (y : Bool) : (setOnline n y s).pending = s.pending := by
  unfold setOnline
  dsimp only
  split <;> rfl

theorem setLane_pending (n : Arg Nat) (y : Arg Bool) (r : Arg Nat) (p : Arg Parity) :
    EndsPending s (setLane n y r p s) := by
  refine .num rfl fun n => .opt rfl fun y => .optNum rfl fun r => .opt rfl fun p => .below rfl fun _ => ?_
  split
  · rfl
  · refine .ite (fun _ => rfl) fun _ => ?_
    dsimp only [Ends]
    split <;> simp

theorem queueRun_pending (n p c t : Arg Nat) : EndsPending s (queueRun n p c t s) := by
  refine .num rfl fun n => .num rfl fun p => .optNum rfl fun c => .optNum rfl fun t => .ite (fun _ => rfl) fun _ =>
    .ite (fun _ => rfl) fun _ => .ite (fun _ => rfl) fun _ => .ite (fun _ => rfl) fun _ => ?_
  dsimp only [Ends]
  split <;> simp

theorem abortLane_pending (n : Arg Nat) (f : Arg Unit) : EndsPending s (abortLane n f s) := by
  refine .num rfl fun n => .opt rfl fun fl => .below rfl fun _ => ?_
  dsimp only [Ends]
  split
  · rfl
  · rfl
  · exact pending_of_outside (abortHeld_outside n (s.modLane n _))
  · exact pending_of_outside (abortRun_outside n (s.modLane n _))

theorem clearCounters_pending (n : Arg Nat) : EndsPending s (clearCounters n s) := .index rfl fun _ _ => rfl

theorem discardRecord_pending (n o : Arg Nat) : EndsPending s (discardRecord n o s) := by
  refine .num rfl fun _ => .num rfl fun _ => .below rfl fun _ => .below rfl fun _ => ?_
  split
  · rfl
  · exact .ite (fun _ => rfl) fun _ => rfl

end requests

section
variable (s : State)

/-- Table 10-1, steps 4, 7 and 8. -/
theorem request_pending {h : State → Answer × State} (hh : ∀ u, EndsPending u (h u)) (lvl : Level) (tag : Text)
    (b : Bool) : (request lvl tag b h s).pending = s.pending :=
  request_keeps (P := fun t => t.pending = s.pending) (fun _ _ ht => ht) (fun _ _ ht => ht)
    (fun u hu => (hh u).imp fun _ ht => ht.trans hu) rfl

/-- R175: every request. -/
@[simp] theorem serveRuns_pending (i : Instr) : (serveRuns i s).pending = s.pending := by
  have leaves {lvl tag b f} (hf : ∀ u, EndsPending u (f u)) : (request lvl tag b f s).pending = s.pending :=
    request_pending s (h := f) hf lvl tag b
  have reads {lvl tag b f} (hf : ∀ u, Ends (· = u) (f u)) : (request lvl tag b f s).pending = s.pending :=
    leaves fun u => (hf u).imp fun _ => congrArg State.pending
  cases i
  case status t => exact reads fun _ => rfl
  case listSlots t => exact reads fun _ => rfl
  case readSlot t n => exact reads fun u => readSlot_reads u n
  case readIssue t n => exact reads fun u => readIssue_reads u n
  case readPlan t n => exact reads fun u => readPlan_reads u n
  case readPlanStep t p w k => exact reads fun u => readPlanStep_reads u p w k
  case readWindow t w lv => exact reads fun u => readWindow_reads u w lv
  case readWindowSummary t lv => exact reads fun _ => rfl
  case readLane t n => exact reads fun u => readLane_reads u n
  case readRecord t => exact reads readRecord_reads
  case readRecordEntry t n o x => exact reads fun u => readEntry_reads u n o x _
  case readRecordDelivery t n o k => exact reads fun u => readRecordDelivery_reads u n o k
  case readRecordVoided t n o x => exact reads fun u => readEntry_reads u n o x _
  case readRecordNotes t n o x => exact reads fun u => readEntry_reads u n o x _
  case suspendSlot t n => exact leaves fun u => suspendSlot_pending u n
  case resumeSlot t n => exact leaves fun u => resumeSlot_pending u n
  case eraseSlot t n => exact leaves fun u => eraseSlot_pending u n
  case setBudget t n b => exact leaves fun u => setBudget_pending u n b
  case setScrub t v => exact leaves fun u => setScrub_pending u v
  case enrolCustodian t n g l => exact leaves fun u => enrolCustodian_pending u n g l
  case removeCustodian t n => exact leaves fun u => removeCustodian_pending u n
  case unlockCustodian t n => exact leaves fun u => unlockCustodian_pending u n
  case setDualWindow t v => exact leaves fun u => setDualWindow_pending u v
  case setParityPolicy t p => exact leaves fun u => setParityPolicy_pending u p
  case assembleBegin t a => exact leaves fun u => assembleBegin_pending u a
  case assembleCancel t => exact leaves assembleCancel_pending
  case openIssue t n p f l st th => exact leaves fun u => openIssue_pending u n p f l st th
  case extendIssue t n l => exact leaves fun u => extendIssue_pending u n l
  case setIssueWarning t n th => exact leaves fun u => setIssueWarning_pending u n th
  case restart t => exact leaves restart_pending
  case acknowledgeTamper t => exact leaves acknowledgeTamper_pending
  case editPlanSet t p k kd a x => exact leaves fun u => editPlanStep_pending u false p k kd a x
  case editPlanInsert t p k kd a x => exact leaves fun u => editPlanStep_pending u true p k kd a x
  case editPlanDelete t p k x => exact leaves fun u => editPlanDelete_pending u p k x
  case editPlanLabel t p l x => exact leaves fun u => editPlanLabel_pending u p l x
  case discardDraft t p => exact leaves fun u => discardDraft_pending u p
  case installPlan t p => exact leaves fun u => installPlan_pending u p
  case removePlan t p => exact leaves fun u => removePlan_pending u p
  case setWindow t a lv => exact leaves fun u => setWindow_pending u a lv
  case setWindowEnabled t w e x lv => exact leaves fun u => setWindowEnabled_pending u w e x lv
  case clearWindow t w lv => exact leaves fun u => clearWindow_pending u w lv
  case setDefaultRoute t r => exact leaves fun u => setDefaultRoute_pending u r
  case setLane t n o r p => exact leaves fun u => setLane_pending u n o r p
  case queueRun t n p c g => exact leaves fun u => queueRun_pending u n p c g
  case abortLane t n f => exact leaves fun u => abortLane_pending u n f
  case clearCounters t n => exact leaves fun u => clearCounters_pending u n
  case discardRecord t n o => exact leaves fun u => discardRecord_pending u n o
  -- no request
  all_goals rfl

/-! ### The two ports -/

@[simp] theorem handleLine_pending (l : LinkLine) : (handleLine l s).pending = s.pending := by
  unfold handleLine
  split
  · exact serveRuns_pending ..
  all_goals rfl

@[simp] theorem lineReady_pending (l : LinkLine) : (lineReady l s).pending = s.pending := by
  unfold lineReady
  split
  · rfl
  · simp

@[simp] theorem lineEnds_pending (l : LinkLine) : (lineEnds l s).pending = s.pending := by
  unfold lineEnds
  split
  · rfl
  · split <;> simp
  · simp
  · simp
  · rfl

@[simp] theorem linkCharacter_pending (c : Byte) : (linkCharacter c s).pending = s.pending := by
  unfold linkCharacter
  split
  · rfl
  · split
    · simp
    · unfold collectLink
      dsimp only
      split <;> rfl
  · split <;> simp
  · split <;> simp
  · rfl

@[simp] theorem linkSent_pending : (linkSent s).pending = s.pending := by
  unfold linkSent
  split
  · rfl
  · dsimp only
    split
    · unfold handleHeld
      split <;> simp
    · rfl

theorem confirmChecks_pending (id : Nat) {k : Assembly → HeldComponent → PanelAnswer × State}
    (hk : ∀ a c, (k a c).2.pending = s.pending) : (confirmChecks id s k).2.pending = s.pending := by
  unfold confirmChecks
  split
  · rfl
  · split
    · rfl
    · split_ifs
      exacts [rfl, rfl, rfl, hk _ _]

theorem logon_pending (id : Nat) (code : Text) : (logon id code s).2.pending = s.pending := by
  unfold logon
  split
  · rfl
  · split
    · rfl
    · split
      · rfl
      · rfl
      · split_ifs
        · rfl
        · rfl
        · simp [openSession]
        · unfold wrongPasscode
          split <;> simp

theorem newcode_pending (id : Nat) (code again : Text) : (newcode id code again s).2.pending = s.pending := by
  unfold newcode
  split
  · rfl
  · split
    · rfl
    · split_ifs
      exacts [rfl, rfl, setCustodian_pending ..]

theorem component_pending (id : Nat) (key : Text) : (component id key s).2.pending = s.pending := by
  unfold component
  split
  · rfl
  · split_ifs
    iterate 7 rfl
    simp

/-- Table 2-4: the panel's commands. -/
@[simp] theorem panelAnswer_pending (l : PanelLine) : (panelAnswer l s).2.pending = s.pending := by
  unfold panelAnswer
  split
  iterate 3 rfl
  · exact newcode_pending ..
  · exact logon_pending ..
  · unfold logoff
    split_ifs <;> simp [panelRefuse]
  · rfl
  · exact component_pending ..
  · refine confirmChecks_pending s _ fun a c => ?_
    dsimp only
    split <;> simp [finishAssembly]
  · exact confirmChecks_pending s _ fun _ _ => rfl
  · rfl

@[simp] theorem handlePanel_pending (l : PanelLine) : (handlePanel l s).pending = s.pending := by
  unfold handlePanel panelServe
  dsimp only
  split <;> simp

@[simp] theorem panelLineEnds_pending (l : PanelLine) : (panelLineEnds l s).pending = s.pending := by
  unfold panelLineEnds
  split
  · rfl
  · unfold panelEnds
    dsimp only
    split
    · rfl
    · split <;> simp

@[simp] theorem panelCharacter_pending (c : Byte) : (panelCharacter c s).pending = s.pending := by
  unfold panelCharacter
  split
  · rfl
  · split <;> simp

@[simp] theorem panelReplySent_pending : (panelReplySent s).pending = s.pending := by
  unfold panelReplySent
  split
  · split
    · unfold panelHeld
      split <;> simp
    · rfl
  · rfl

@[simp] theorem panelMessageSent_pending : (panelMessageSent s).pending = s.pending := by
  unfold panelMessageSent
  split
  · split <;> rfl
  · rfl

/-! ### The Cipher Unit, the tamper event, power and start-up -/

@[simp] theorem scrubExpiry_pending : (scrubExpiry s).pending = s.pending := by
  unfold scrubExpiry
  split
  · rfl
  · dsimp only
    split
    · rfl
    · split <;> simp

theorem asmCheckDone_pending (k : BitVec 16) (cv : CheckValue) : (asmCheckDone k cv s).pending = s.pending := by
  unfold asmCheckDone
  split
  · rfl
  · split
    · rfl
    · split
      · split <;> simp
      · split
        · simp
        · split <;> simp
      · rfl

theorem asmTagDone_pending (k : BitVec 16) (tag : Text) : (asmTagDone k tag s).pending = s.pending := by
  unfold asmTagDone
  split
  · rfl
  · split
    · rfl
    · split <;> simp

theorem scrubCompare_pending (n : Nat) (k : BitVec 16) (out : Text) (b : Bool) :
    (scrubCompare n k out b s).pending = s.pending := by
  unfold scrubCompare
  split
  · rfl
  · split
    · split
      · split_ifs <;> simp
      · rfl
    · rfl

@[simp] theorem cipherComplete_pending (b : Bool) : (cipherComplete b s).pending = s.pending := by
  unfold cipherComplete
  split
  · rfl
  · rw [unitFree_pending]
    split
    · rfl
    · unfold handOutput
      split
      · simp
      · exact asmCheckDone_pending ..
      · exact asmTagDone_pending ..
      · exact scrubCompare_pending ..

@[simp] theorem tamperEvent_pending : (tamperEvent s).pending = s.pending := by
  have hauth (b : AuthState) (u : State) : (tamperAuth b u).pending = u.pending := by
    unfold tamperAuth
    split <;> simp
  have hasm (b : Option Assembly) (u : State) : (tamperAssembly b u).pending = u.pending := by
    unfold tamperAssembly
    split <;> simp
  unfold tamperEvent
  split
  · rfl
  · rw [pending_of_outside (tamperLanes_outside _), hasm, hauth, raiseNotice_pending]
    rfl

@[simp] theorem tamperPowerOff_pending : (tamperPowerOff s).pending = s.pending := by
  unfold tamperPowerOff
  split <;> rfl

@[simp] theorem powerLoss_pending : (powerLoss s).pending = s.pending := by
  unfold powerLoss
  split <;> rfl

@[simp] theorem powerOn_pending : (powerOn s).pending = s.pending := by
  unfold powerOn reportOff
  split
  · rfl
  · dsimp only
    split
    · rfl
    · exact raiseNotice_pending ..

@[simp] theorem startUpAfterRestart_pending : (startUpAfterRestart s).pending = s.pending := by
  unfold startUpAfterRestart
  split <;> rfl

theorem unitTested_pending (m : Mode) : (unitTested m s).pending = s.pending := by
  unfold unitTested
  split
  · exact unitFree_pending _
  · rfl

@[simp] theorem selfTestComplete_pending (a b c d : Bool) : (selfTestComplete a b c d s).pending = s.pending := by
  have hstores : (settleStores s).pending = s.pending := by
    obtain ⟨x, hx⟩ := settleStores_eq s
    rw [hx]
  have hann (cause : StartCause) (m : Mode) (k : Nat) (u : State) : (announce cause m k u).pending = u.pending := by
    obtain ⟨p, -, hp⟩ := announce_eq cause m k u
    rw [hp]
  unfold selfTestComplete
  split
  · rfl
  · split
    · rfl
    · exact (unitTested_pending ..).trans ((hann ..).trans hstores)

end

end Sys2Proof.Machine

namespace Sys2Proof.Machine

/-! ## The step (R175, R177): O1 -/

/-- Every command ends in a next state. -/
theorem exec_next (c : Instr) (s : State) : ∃ t, exec c s = .next t := by
  cases c <;> exact ⟨_, rfl⟩

theorem finish_pending {s t u : State} (hf : finish u = .next t) (hu : u.pending = s.pending) :
    t.pending = s.pending := by
  cases hf
  exact hu

theorem exec_pending {c : Instr} {s t : State} (h : exec c s = .next t) : t.pending = s.pending := by
  cases hr : requestOf c with
  | some q => exact finish_pending ((exec_request hr s).symm.trans h) (lineEnds_pending ..)
  | none =>
    cases c <;> simp only [requestOf, reduceCtorEq] at hr
    case linkLineRefused w => exact finish_pending h (lineEnds_pending ..)
    case linkTransmitEnd => exact finish_pending h (linkSent_pending s)
    case linkCharacterReceived c => exact finish_pending h (linkCharacter_pending s c)
    case panelReplySent => exact finish_pending h (panelReplySent_pending s)
    case panelMessageSent => exact finish_pending h (panelMessageSent_pending s)
    case panelCharacterReceived c => exact finish_pending h (panelCharacter_pending s c)
    case dualWindowExpiry => exact finish_pending h (dualExpiry_pending s)
    case scrubTimerExpiry => exact finish_pending h (scrubExpiry_pending s)
    case cipherOperationComplete b => exact finish_pending h (cipherComplete_pending s b)
    case transmitStart n => exact finish_pending h (pending_of_outside (beginWaiting_outside ..))
    case transmitEnd n => exact finish_pending h (pending_of_outside (transmitEnd_outside ..))
    case benchFrameReceived => exact finish_pending h (pending_of_outside (benchFrame_outside ..))
    case bodyLengthOverlong n => exact finish_pending h (pending_of_outside (overlongHeader_outside ..))
    case benchCharacterReceived => exact finish_pending h (pending_of_outside (benchCharacter_outside ..))
    case gapTimerExpiry n => exact finish_pending h (pending_of_outside (gapExpiry_outside ..))
    case stepTimerExpiry n => exact finish_pending h (pending_of_outside (timerExpiry_outside ..))
    case cradleContactChange n b => exact finish_pending h (pending_of_outside (contactChange_outside ..))
    case settleTimerExpiry n => exact finish_pending h (pending_of_outside (settleExpiry_outside ..))
    case reservationRetry n => exact finish_pending h (pending_of_outside (retryReservation_outside ..))
    case tamperEvent => exact finish_pending h (tamperEvent_pending s)
    case tamperPowerOff => exact finish_pending h (tamperPowerOff_pending s)
    case powerOn => exact finish_pending h (powerOn_pending s)
    case startUpAfterRestart => exact finish_pending h (startUpAfterRestart_pending s)
    case powerLoss => exact finish_pending h (powerLoss_pending s)
    case selfTestComplete => exact finish_pending h (selfTestComplete_pending ..)
    -- the commands that end a line at the panel
    all_goals exact finish_pending h (panelLineEnds_pending ..)

/-- Settles O1: the step by its definition, and the queue by what each block leaves of it (`exec_pending`). -/
theorem stepTakesFront : Obligations.StepTakesFront :=
  ⟨⟨fun _ _ _ => rfl, fun s h => by rw [step, h]⟩, exec_next, fun _ _ _ => exec_pending⟩

end Sys2Proof.Machine

namespace Sys2Proof.Machine

/-! ## The roster, the sessions and the authorisation state (R26, R34, R37) -/

section
variable (s : State) (n m : Nat) (c : Option Custodian)

/-- Writing a roster entry touches the roster alone. -/
theorem setCustodian_eq : ∃ r, s.setCustodian n c = { s with auth := { s.auth with roster := r } } := by
  unfold State.setCustodian
  split
  · exact ⟨s.auth.roster, rfl⟩
  · exact ⟨_, rfl⟩

@[simp] theorem setCustodian_sessions : (s.setCustodian n c).auth.sessions = s.auth.sessions := by
  obtain ⟨r, h⟩ := setCustodian_eq s n c
  rw [h]
@[simp] theorem setCustodian_state : (s.setCustodian n c).auth.state = s.auth.state := by
  obtain ⟨r, h⟩ := setCustodian_eq s n c
  rw [h]
@[simp] theorem setCustodian_dualWindow : (s.setCustodian n c).auth.dualWindow = s.auth.dualWindow := by
  obtain ⟨r, h⟩ := setCustodian_eq s n c
  rw [h]
@[simp] theorem setCustodian_panel : (s.setCustodian n c).panel = s.panel := by
  obtain ⟨r, h⟩ := setCustodian_eq s n c
  rw [h]

/-- R26: entries 1 to 12 are written and read. -/
theorem custodianAt_setCustodian :
    (s.setCustodian n c).custodianAt m = if n = m ∧ 1 ≤ n ∧ n ≤ 12 then c else s.custodianAt m := by
  unfold State.custodianAt State.setCustodian
  by_cases hm : m = 0
  · subst hm
    rw [if_pos rfl, if_pos rfl, if_neg (by omega)]
  · rw [if_neg hm, if_neg hm]
    by_cases hn : n = 0
    · rw [if_pos hn, if_neg (by omega)]
    · rw [if_neg hn, look_put]
      exact if_congr (by omega) rfl rfl

theorem custodianAt_setCustodian_ne (h : n ≠ m) : (s.setCustodian n c).custodianAt m = s.custodianAt m := by
  rw [custodianAt_setCustodian, if_neg fun hnm => h hnm.1]

end

section
variable {s t : State} {n m : Nat}

theorem custodianAt_congr (h : t.auth.roster = s.auth.roster) (n : Nat) : t.custodianAt n = s.custodianAt n := by
  unfold State.custodianAt
  rw [h]

/-- An entry that is rewritten with its group leaves every group as it is. -/
theorem group_setCustodian {c c' : Custodian} (hc : s.custodianAt n = some c) (hg : c'.group = c.group) (m : Nat) :
    ((s.setCustodian n (some c')).custodianAt m).map Custodian.group = (s.custodianAt m).map Custodian.group := by
  rw [custodianAt_setCustodian]
  split
  · rename_i h
    rw [← h.1, hc, Option.map_some, Option.map_some, hg]
  · rfl

/-- R37: the state is NONE with no session alone. -/
theorem authOf_eq_none {l : List (Option Group)} : authOf l = .none ↔ l = [] := by
  unfold authOf
  split
  · simp
  · split <;> simp
  · rename_i hne _
    exact ⟨nofun, fun h => absurd h hne⟩

theorem authOf_single (g : Option Group) : authOf [g] = .single := by cases g <;> rfl

theorem sessionGroups_eq_nil : sessionGroups s = [] ↔ s.auth.sessions = [] := List.map_eq_nil_iff

namespace SessionsLawful

/-- The law speaks of the sessions, the state, and the groups of the sessions' custodians. -/
theorem of_groups (hs : SessionsLawful s) (hses : t.auth.sessions = s.auth.sessions)
    (hst : t.auth.state = s.auth.state)
    (hg : ∀ n ∈ s.auth.sessions, (t.custodianAt n).map Custodian.group = (s.custodianAt n).map Custodian.group) :
    SessionsLawful t := by
  obtain ⟨hlen, hnodup, hsome, hstate⟩ := hs
  have hgroups : sessionGroups t = sessionGroups s := by
    unfold sessionGroups
    rw [hses]
    exact List.map_congr_left hg
  refine ⟨hses ▸ hlen, hses ▸ hnodup, fun n hn => ?_, by rw [hst, hgroups, hstate]⟩
  rw [hses] at hn
  have h := congrArg Option.isSome (hg n hn)
  rw [Option.isSome_map, Option.isSome_map] at h
  rw [h]
  exact hsome n hn

theorem of_auth (hs : SessionsLawful s) (h : t.auth = s.auth) : SessionsLawful t :=
  hs.of_groups (by rw [h]) (by rw [h]) fun n _ =>
    congrArg (Option.map Custodian.group) (custodianAt_congr (congrArg AuthUnit.roster h) n)

/-- No session is lawful with state NONE. -/
theorem of_closed (hses : t.auth.sessions = []) (hst : t.auth.state = .none) : SessionsLawful t := by
  refine ⟨by simp [hses], by simp [hses], by simp [hses], ?_⟩
  rw [hst, sessionGroups_eq_nil.2 hses]
  rfl

/-- An entry that no session is of is written. -/
theorem setCustodian (hs : SessionsLawful s) (hn : n ∉ s.auth.sessions) (c : Option Custodian) :
    SessionsLawful (s.setCustodian n c) :=
  hs.of_groups (setCustodian_sessions s n c) (setCustodian_state s n c) fun m hm => by
    rw [custodianAt_setCustodian_ne s n m c (fun h => hn (h ▸ hm))]

/-- An entry is rewritten with its group. -/
theorem setCustodian_group (hs : SessionsLawful s) {c c' : Custodian} (hc : s.custodianAt n = some c)
    (hg : c'.group = c.group) : SessionsLawful (s.setCustodian n (some c')) :=
  hs.of_groups (setCustodian_sessions s n _) (setCustodian_state s n _) fun m _ => group_setCustodian hc hg m

/-- R34, R37: no session and NONE, one session and SINGLE, or two and the state that their groups give. -/
theorem cases (hs : SessionsLawful s) :
    (s.auth.sessions = [] ∧ s.auth.state = .none) ∨
    (∃ n c, s.auth.sessions = [n] ∧ s.custodianAt n = some c ∧ s.auth.state = .single) ∨
    (∃ m n c d, s.auth.sessions = [m, n] ∧ m ≠ n ∧ s.custodianAt m = some c ∧ s.custodianAt n = some d ∧
      s.auth.state = if c.group = d.group then .single else .dual) := by
  obtain ⟨hlen, hnodup, hsome, hstate⟩ := hs
  unfold sessionGroups at hstate
  match hl : s.auth.sessions with
  | [] => exact .inl ⟨rfl, by rw [hstate, hl]; rfl⟩
  | [n] =>
    obtain ⟨c, hc⟩ := Option.isSome_iff_exists.1 (hsome n (by simp [hl]))
    exact .inr (.inl ⟨n, c, rfl, hc, by rw [hstate, hl]; exact authOf_single _⟩)
  | [m, n] =>
    obtain ⟨c, hc⟩ := Option.isSome_iff_exists.1 (hsome m (by simp [hl]))
    obtain ⟨d, hd⟩ := Option.isSome_iff_exists.1 (hsome n (by simp [hl]))
    refine .inr (.inr ⟨m, n, c, d, rfl, by simpa [hl] using hnodup, hc, hd, ?_⟩)
    rw [hstate, hl, List.map_cons, List.map_cons, List.map_nil, hc, hd]
    rfl
  | _ :: _ :: _ :: _ => simp [hl] at hlen

/-- R37: DUAL exactly with two sessions of different groups. -/
theorem dual_iff (hs : SessionsLawful s) : s.auth.state = .dual ↔ ∃ m n c d, s.auth.sessions = [m, n] ∧
    s.custodianAt m = some c ∧ s.custodianAt n = some d ∧ c.group ≠ d.group := by
  rcases hs.cases with ⟨hl, hst⟩ | ⟨n, c, hl, hc, hst⟩ | ⟨m, n, c, d, hl, -, hc, hd, hst⟩
  · simp [hl, hst]
  · simp [hl, hst]
  · rw [hst]
    by_cases hg : c.group = d.group
    · simp [hl, hc, hd, hg]
    · simp [hl, hc, hd, hg]

theorem none_iff (hs : SessionsLawful s) : s.auth.state = .none ↔ s.auth.sessions = [] := by
  rw [hs.2.2.2, authOf_eq_none, sessionGroups_eq_nil]

end SessionsLawful

/-! ### The derivation of the state (R37), and the end of a session (R35, R49) -/

@[simp] theorem raiseNotice_auth (l : Line) (s : State) : (raiseNotice l s).auth = s.auth := by rw [raiseNotice_eq]
@[simp] theorem raiseMessage_auth (l : Line) (s : State) : (raiseMessage l s).auth = s.auth := by rw [raiseMessage_eq]

/-- R50: the cancelled assembly's slot, request and record, and the two ports, are all that a cancellation touches. -/
@[simp] theorem cancelAssembly_auth (cause : String) (s : State) : (cancelAssembly cause s).auth = s.auth := by
  unfold cancelAssembly
  split
  · rfl
  · rw [raiseBoth_eq]
    rfl

/-- R37, R38: the state that the sessions give, with the dual window timer started or stopped. -/
def State.reauthorised (s : State) : State :=
  { s with auth := { s.auth with
      state := authOf (sessionGroups s)
      dualTimer := if authOf (sessionGroups s) = .dual then some s.auth.dualWindow else none } }

/-- R37: the AUTH notice and message. -/
def tellAuth (cause : String) (s : State) : State :=
  raiseMessage (authItems s) (raiseNotice ((.word "!" :: authItems s) ++ [.field "CAUSE" (.word cause)]) s)

/-- R37, R50: the three outcomes of a derivation. -/
theorem rederive_eq (cause : String) (s : State) : rederive cause s =
    if authOf (sessionGroups s) = s.auth.state then s
    else if authOf (sessionGroups s) = .none then cancelAssembly "AUTH" (tellAuth cause s.reauthorised)
    else tellAuth cause s.reauthorised := rfl

/-- R32: a message stands behind those that wait, or is dropped. -/
theorem raiseMessage_out (l : Line) (s : State) :
    ∃ more, (raiseMessage l s).panel = { s.panel with out := s.panel.out ++ more } := by
  unfold raiseMessage
  split
  · exact ⟨_, rfl⟩
  · exact ⟨[], by simp⟩

/-- R37: what is told touches the two ports alone, and the panel's queue at its end. -/
theorem tellAuth_eq (cause : String) (s : State) : ∃ k more,
    tellAuth cause s = { s with link := k, panel := { s.panel with out := s.panel.out ++ more } } := by
  obtain ⟨more, hmore⟩ := raiseMessage_out (authItems s)
    (raiseNotice ((.word "!" :: authItems s) ++ [.field "CAUSE" (.word cause)]) s)
  exact ⟨_, more, by rw [tellAuth, raiseMessage_eq, hmore, raiseNotice_eq]⟩

@[simp] theorem tellAuth_auth (cause : String) (s : State) : (tellAuth cause s).auth = s.auth := by
  obtain ⟨k, more, h⟩ := tellAuth_eq cause s
  rw [h]

/-- R37, R38: the Authorisation Unit once the state is derived again. -/
theorem rederive_auth (cause : String) (s : State) : (rederive cause s).auth = { s.auth with
    state := authOf (sessionGroups s)
    dualTimer := if authOf (sessionGroups s) = s.auth.state then s.auth.dualTimer
      else if authOf (sessionGroups s) = .dual then some s.auth.dualWindow else none } := by
  rw [rederive_eq]
  split
  · rename_i h
    rw [h]
  · split
    · rw [cancelAssembly_auth, tellAuth_auth]
      rfl
    · rw [tellAuth_auth]
      rfl

@[simp] theorem rederive_roster (cause : String) (s : State) : (rederive cause s).auth.roster = s.auth.roster := by
  rw [rederive_auth]
@[simp] theorem rederive_sessions (cause : String) (s : State) :
    (rederive cause s).auth.sessions = s.auth.sessions := by rw [rederive_auth]
@[simp] theorem rederive_dualWindow (cause : String) (s : State) :
    (rederive cause s).auth.dualWindow = s.auth.dualWindow := by rw [rederive_auth]
theorem rederive_state (cause : String) (s : State) : (rederive cause s).auth.state = authOf (sessionGroups s) := by
  rw [rederive_auth]
@[simp] theorem rederive_custodianAt (cause : String) (s : State) (n : Nat) :
    (rederive cause s).custodianAt n = s.custodianAt n := custodianAt_congr (rederive_roster cause s) n

/-- R37: sessions of different custodians of the roster, at most two, are lawful once the state is derived again. -/
theorem rederive_lawfulSessions (cause : String) (hlen : s.auth.sessions.length ≤ 2) (hnodup : s.auth.sessions.Nodup)
    (hsome : ∀ n ∈ s.auth.sessions, (s.custodianAt n).isSome) : SessionsLawful (rederive cause s) := by
  have hgroups : sessionGroups (rederive cause s) = sessionGroups s := by
    unfold sessionGroups
    rw [rederive_sessions]
    exact List.map_congr_left fun n _ => by rw [rederive_custodianAt]
  refine ⟨by rwa [rederive_sessions], by rwa [rederive_sessions], fun n hn => ?_, ?_⟩
  · rw [rederive_custodianAt]
    exact hsome n (by rwa [rederive_sessions] at hn)
  · rw [hgroups, rederive_state]

/-- R49: a held component that is discarded takes its CHECK with it; the assembly stays open on its slot. -/
theorem discardHeld_eq (id : Nat) (s : State) : ∃ u p r,
    discardHeld id s = { s with cipher := u, panel := p, asm := { s.asm with record := r } } ∧
      r.map Assembly.slot = s.asm.record.map Assembly.slot := by
  unfold discardHeld
  split
  · exact ⟨s.cipher, s.panel, s.asm.record, rfl, rfl⟩
  · rename_i a ha
    split
    · exact ⟨s.cipher, s.panel, s.asm.record, rfl, rfl⟩
    · split
      · exact ⟨s.cipher, s.panel, s.asm.record, rfl, rfl⟩
      · dsimp only
        rw [raiseMessage_eq, ha]
        split <;> split <;> exact ⟨_, _, _, rfl, rfl⟩

/-- R35: a session's end leaves the roster, the state and the timer to the derivation. -/
theorem dropSession_auth (id : Nat) (s : State) :
    (dropSession id s).auth = { s.auth with sessions := s.auth.sessions.filter (· ≠ id) } := by
  obtain ⟨u, p, r, h, -⟩ := discardHeld_eq id { s with auth := { s.auth with sessions := s.auth.sessions.filter (· ≠ id) } }
  rw [dropSession, h]

theorem dropSession_roster (id : Nat) (s : State) : (dropSession id s).auth.roster = s.auth.roster := by
  rw [dropSession_auth]
theorem dropSession_sessions (id : Nat) (s : State) :
    (dropSession id s).auth.sessions = s.auth.sessions.filter (· ≠ id) := by rw [dropSession_auth]

/-- R38: sessions that end one after another. -/
theorem dropSessions_auth (l : List Nat) (s : State) : (l.foldl (fun t id => dropSession id t) s).auth =
    { s.auth with sessions := s.auth.sessions.filter (· ∉ l) } := by
  induction l generalizing s with
  | nil => simp
  | cons id l ih =>
    rw [List.foldl_cons, ih, dropSession_auth, List.filter_filter]
    simp [Bool.and_comm]

theorem dropAll_auth (s : State) :
    (s.auth.sessions.foldl (fun t id => dropSession id t) s).auth = { s.auth with sessions := [] } := by
  rw [dropSessions_auth]
  simp

theorem dropAll_sessions (s : State) :
    (s.auth.sessions.foldl (fun t id => dropSession id t) s).auth.sessions = [] := by rw [dropAll_auth]

end

end Sys2Proof.Machine

namespace Sys2Proof.Machine

/-! ## What a request answers and leaves (R175): O2, O24

A request changes nothing, or is answered OK and leaves a state of which `Q` holds. -/

def Serves (Q : State → Prop) (s : State) (p : Answer × State) : Prop := p.2 = s ∨ (∃ l, p.1 = .ok l) ∧ Q p.2

namespace Serves
variable {Q R : State → Prop} {s : State}

theorem refuse (c : ErrCode) : Serves Q s (refuse c s) := .inl rfl

theorem ok {l : List Item} {t : State} (h : Q t) : Serves Q s (.ok l, t) := .inr ⟨⟨l, rfl⟩, h⟩

/-- A request that reads. -/
theorem reads {p : Answer × State} (h : Ends (· = s) p) : Serves Q s p := .inl h

theorem need {α : Type} {a : Arg α} {k : α → Answer × State} (hk : ∀ v, Serves Q s (k v)) :
    Serves Q s (a.need s k) := by
  cases a with
  | val v => exact hk v
  | absent => exact refuse _
  | malformed => exact refuse _

theorem num {a : Arg Nat} {d : Nat} {k : Nat → Answer × State} (hk : ∀ v, Serves Q s (k v)) :
    Serves Q s (a.num d s k) := by
  cases a with
  | val v => unfold Arg.num; dsimp only; split; exacts [hk v, refuse _]
  | absent => exact refuse _
  | malformed => exact refuse _

theorem opt {α : Type} {a : Arg α} {k : Option α → Answer × State} (hk : ∀ v, Serves Q s (k v)) :
    Serves Q s (a.opt s k) := by
  cases a with
  | val v => exact hk _
  | absent => exact hk _
  | malformed => exact refuse _

theorem optNum {a : Arg Nat} {d : Nat} {k : Option Nat → Answer × State} (hk : ∀ v, Serves Q s (k v)) :
    Serves Q s (a.optNum d s k) := by
  cases a with
  | val v => unfold Arg.optNum; dsimp only; split; exacts [hk _, refuse _]
  | absent => exact hk _
  | malformed => exact refuse _

theorem below {b n : Nat} {p : Answer × State} (hp : Serves Q s p) : Serves Q s (below b n s p) := by
  unfold Machine.below; split
  · exact hp
  · exact refuse _

theorem index {a : Arg Nat} {b : Nat} {k : Nat → Answer × State} (hk : ∀ n, Serves Q s (k n)) :
    Serves Q s (a.index b s k) := num fun n => below (hk n)

/-- Either answer of a check. -/
theorem ite {c : Prop} [Decidable c] {p q : Answer × State} (hp : c → Serves Q s p) (hq : ¬c → Serves Q s q) :
    Serves Q s (if c then p else q) := by
  split
  · exact hp ‹_›
  · exact hq ‹_›

/-- R175: a refusal changes nothing. -/
theorem unchanged {p : Answer × State} (h : Serves Q s p) {c : ErrCode} {l : List Item} (hc : p.1 = .err c l) :
    p.2 = s := by
  rcases h with h | ⟨⟨l', hl⟩, -⟩
  · exact h
  · rw [hl] at hc
    cases hc

/-- What is kept where nothing changes is kept. -/
theorem keeps {p : Answer × State} (h : Serves Q s p) (hs : R s) (hQ : ∀ t, Q t → R t) : R p.2 := by
  rcases h with h | ⟨-, h⟩
  · rwa [h]
  · exact hQ _ h

end Serves

/-- A request that leaves the Authorisation Unit as it is. -/
abbrev ServesBeside (s : State) : Answer × State → Prop := Serves (fun t => t.auth = s.auth) s

/-- No run touches the Authorisation Unit. -/
theorem auth_of_outside {s t : State} (h : t.outside = s.outside) : t.auth = s.auth := by
  simp only [State.outside, Prod.mk.injEq] at h
  obtain ⟨-, hauth, -⟩ := h
  exact hauth

section requests
variable (s : State)

theorem suspendSlot_serves (n : Arg Nat) : ServesBeside s (suspendSlot n s) := by
  refine .index fun n => ?_
  split
  · exact .ite (fun _ => .ok rfl) fun _ => .refuse _
  · exact .refuse _

theorem resumeSlot_serves (n : Arg Nat) : ServesBeside s (resumeSlot n s) := by
  refine .index fun n => ?_
  split
  · exact .ite (fun _ => .ok rfl) fun _ => .refuse _
  · exact .refuse _

theorem eraseSlot_serves (n : Arg Nat) : ServesBeside s (eraseSlot n s) := by
  refine .index fun n => ?_
  split
  · exact .ite (fun _ => .refuse _) fun _ => .ite (fun _ => .refuse _) fun _ => .ok rfl
  · exact .refuse _

theorem setBudget_serves (n : Arg Nat) (b : Arg Budget) : ServesBeside s (setBudget n b s) := by
  refine .num fun n => .need fun v => .ite (fun _ => .refuse _) fun _ => .below (.ite (fun _ => .refuse _) fun _ => ?_)
  split
  · split
    · exact .ite (fun _ => .refuse _) fun _ => .ite (fun _ => .refuse _) fun _ => .ok rfl
    · exact .refuse _
  · exact .refuse _

theorem setScrub_serves (v : Arg Nat) : ServesBeside s (setScrub v s) := .num fun _ => .ok rfl
theorem setParityPolicy_serves (p : Arg Policy) : ServesBeside s (setParityPolicy p s) := .need fun _ => .ok rfl

theorem assembleBegin_serves (a : AssembleArgs) : ServesBeside s (assembleBegin a s) := by
  refine .num fun slot => .need fun cls => .need fun fam => .num fun len => .num fun parts => .opt fun cv =>
    .opt fun lab => .optNum fun kver => .opt fun budget => .ite (fun _ => .refuse _) fun _ =>
    .ite (fun _ => .refuse _) fun _ => ?_
  split
  · exact .refuse _
  · exact .ite (fun _ => .refuse _) fun _ => .ite (fun _ => .refuse _) fun _ =>
      .ite (fun _ => .refuse _) fun _ => .ok rfl

theorem assembleCancel_serves : ServesBeside s (assembleCancel s) := by
  unfold assembleCancel
  split
  · exact .refuse _
  · exact .ok (cancelAssembly_auth ..)

@[simp] theorem warnAfterThreshold_auth (n : Nat) (a : Account) : (warnAfterThreshold n a s).2.auth = s.auth := by
  obtain ⟨armed, ls, hw⟩ := warnAfterThreshold_eq n a s
  obtain ⟨k, hk⟩ := raiseAll_eq ls (s.setAccount n (some { a with armed := armed }))
  rw [hw, hk]
  rfl

theorem openIssue_serves (n : Arg Nat) (p : Arg (BitVec 24)) (f l st th : Arg Nat) :
    ServesBeside s (openIssue n p f l st th s) := by
  refine .num fun n => .need fun p => .num fun f => .num fun l => .optNum fun st => .optNum fun th =>
    .below (.ite (fun _ => .refuse _) fun _ => ?_)
  split
  · exact .refuse _
  · exact .ite (fun _ => .refuse _) fun _ => .ite (fun _ => .refuse _) fun _ => .ok (warnAfterThreshold_auth ..)

theorem extendIssue_serves (n l : Arg Nat) : ServesBeside s (extendIssue n l s) := by
  refine .num fun n => .num fun v => .below (.ite (fun _ => .refuse _) fun _ => ?_)
  split
  · exact .refuse _
  · exact .ite (fun _ => .refuse _) fun _ => .ok rfl

theorem setIssueWarning_serves (n th : Arg Nat) : ServesBeside s (setIssueWarning n th s) := by
  refine .num fun n => .num fun v => .below ?_
  split
  · exact .refuse _
  · exact .ok (warnAfterThreshold_auth ..)

theorem restart_serves : ServesBeside s (restart s) := .ite (fun _ => .ok rfl) fun _ => .refuse _
theorem acknowledgeTamper_serves : ServesBeside s (acknowledgeTamper s) := .ite (fun _ => .ok rfl) fun _ => .refuse _

theorem editPlanStep_serves (b : Bool) (p k : Arg Nat) (kd : Arg StepKind) (a : StepArgs) (x : Bool) :
    ServesBeside s (editPlanStep b p k kd a x s) :=
  .index fun _ => .num fun _ => .need fun _ => .ite (fun _ => .refuse _) fun _ =>
    .ite (fun _ => .refuse _) fun _ => .ok rfl

theorem editPlanDelete_serves (p k : Arg Nat) (x : Bool) : ServesBeside s (editPlanDelete p k x s) :=
  .index fun _ => .num fun _ => .ite (fun _ => .refuse _) fun _ => .ite (fun _ => .refuse _) fun _ => .ok rfl

theorem editPlanLabel_serves (p : Arg Nat) (l : Arg Text) (x : Bool) : ServesBeside s (editPlanLabel p l x s) :=
  .index fun _ => .opt fun _ => .ite (fun _ => .refuse _) fun _ => .ok rfl

theorem discardDraft_serves (p : Arg Nat) : ServesBeside s (discardDraft p s) :=
  .index fun _ => .ite (fun _ => .refuse _) fun _ => .ok rfl

theorem installPlan_serves (p : Arg Nat) : ServesBeside s (installPlan p s) := by
  refine .index fun n => ?_
  dsimp only
  split
  · exact .refuse _
  · split
    -- DRAFT-INVALID, with the step and the reason
    · exact .inl rfl
    · exact .ite (fun _ => .refuse _) fun _ => .ok rfl

theorem removePlan_serves (p : Arg Nat) : ServesBeside s (removePlan p s) :=
  .index fun _ => .ite (fun _ => .refuse _) fun _ => .ite (fun _ => .refuse _) fun _ => .ok rfl

theorem setWindow_serves (a : WindowArgs) (lv : Level) : ServesBeside s (setWindow a lv s) := by
  refine .num fun n => .need fun k => .need fun m => .optNum fun f => .optNum fun p => .opt fun e => .opt fun o => ?_
  split
  · exact .refuse _
  · exact .ite (fun _ => .refuse _) fun _ => .ite (fun _ => .refuse _) fun _ => .ite (fun _ => .refuse _) fun _ =>
      .ite (fun _ => .refuse _) fun _ => .ok rfl

theorem setWindowEnabled_serves (w : Arg Nat) (e : Arg Bool) (x : Bool) (lv : Level) :
    ServesBeside s (setWindowEnabled w e x lv s) := by
  refine .num fun n => .need fun e => .ite (fun _ => .refuse _) fun _ => .below (.ite (fun _ => .refuse _) fun _ => ?_)
  split
  · exact .refuse _
  · exact .ok rfl

theorem clearWindow_serves (w : Arg Nat) (lv : Level) : ServesBeside s (clearWindow w lv s) :=
  .index fun _ => .ite (fun _ => .refuse _) fun _ => .ite (fun _ => .refuse _) fun _ => .ok rfl

theorem setDefaultRoute_serves (r : Arg DefaultRoute) : ServesBeside s (setDefaultRoute r s) := by
  refine .need fun r => ?_
  cases r with
  | reject => exact .ok rfl
  | plan p => exact .ite (fun _ => .refuse _) fun _ => .below (.ok rfl)

@[simp] theorem setOnline_auth (n : Nat) (y : Bool) : (setOnline n y s).auth = s.auth := by
  unfold setOnline
  dsimp only
  split <;> rfl

theorem setLane_serves (n : Arg Nat) (y : Arg Bool) (r : Arg Nat) (p : Arg Parity) :
    ServesBeside s (setLane n y r p s) := by
  refine .num fun n => .opt fun y => .optNum fun r => .opt fun p => .below ?_
  split
  · exact .refuse _
  · refine .ite (fun _ => .refuse _) fun _ => .ok ?_
    split <;> simp

theorem queueRun_serves (n p c t : Arg Nat) : ServesBeside s (queueRun n p c t s) := by
  refine .num fun n => .num fun p => .optNum fun c => .optNum fun t => .ite (fun _ => .refuse _) fun _ =>
    .ite (fun _ => .refuse _) fun _ => .ite (fun _ => .refuse _) fun _ => .ite (fun _ => .refuse _) fun _ => .ok ?_
  split
  · exact auth_of_outside (startAt_outside n (s.modLane n _))
  · rfl

theorem abortLane_serves (n : Arg Nat) (f : Arg Unit) : ServesBeside s (abortLane n f s) := by
  refine .num fun n => .opt fun fl => .below (.inr ⟨⟨_, rfl⟩, ?_⟩)
  split
  · rfl
  · rfl
  · exact auth_of_outside (abortHeld_outside n (s.modLane n _))
  · exact auth_of_outside (abortRun_outside n (s.modLane n _))

theorem clearCounters_serves (n : Arg Nat) : ServesBeside s (clearCounters n s) := .index fun _ => .ok rfl

theorem discardRecord_serves (n o : Arg Nat) : ServesBeside s (discardRecord n o s) := by
  refine .num fun _ => .num fun _ => .below (.below ?_)
  split
  · exact .refuse _
  · exact .ite (fun _ => .refuse _) fun _ => .ok rfl

end requests

/-! ### The requests of the Authorisation Unit (R28 to R30, R40) -/

/-- A request that keeps the law of the sessions. -/
abbrev ServesLawful (s : State) : Answer × State → Prop := Serves (fun t => SessionsLawful s → SessionsLawful t) s

/-- No session is of an entry that is EMPTY. -/
theorem SessionsLawful.notMem {s : State} (hs : SessionsLawful s) {n : Nat} (hn : s.custodianAt n = none) :
    n ∉ s.auth.sessions := fun hmem => by
  have h := hs.2.2.1 n hmem
  rw [hn] at h
  cases h

/-- R38: a restarted dual window timer restarts alike. -/
@[simp] theorem restartDual_idem (s : State) : restartDual (restartDual s) = restartDual s := by
  rw [restartDual_eq s, restartDual_eq]
  dsimp only
  split <;> rfl

/-- R28: the owner finds the request with the dual window timer restarted, and refuses it so. -/
theorem enrolCustodian_serves (n : Arg Nat) (g : Arg Group) (l : Arg Text) (s : State) :
    ServesLawful (restartDual s) (enrolCustodian n g l s) := by
  refine .num fun n => .ite (fun _ => .refuse _) fun _ => .need fun g => .opt fun l =>
    .ite (fun _ => .refuse _) fun _ => ?_
  split
  · exact .refuse _
  · rename_i hn
    exact .ok fun hs => hs.setCustodian (hs.notMem hn) _

theorem removeCustodian_serves (s : State) (n : Arg Nat) : ServesLawful s (removeCustodian n s) := by
  refine .num fun n => .ite (fun _ => .refuse _) fun _ => ?_
  split
  · exact .refuse _
  · exact .ite (fun _ => .refuse _) fun hn => .ok fun hs => hs.setCustodian (by simpa using hn) none

theorem unlockCustodian_serves (s : State) (n : Arg Nat) : ServesLawful s (unlockCustodian n s) := by
  refine .num fun n => .ite (fun _ => .refuse _) fun _ => ?_
  split
  · exact .refuse _
  · rename_i c hc
    exact .ite (fun _ => .ok fun hs => hs.setCustodian_group hc rfl) fun _ => .refuse _

theorem SessionsLawful.restartDual {s : State} (hs : SessionsLawful s) : SessionsLawful (restartDual s) :=
  hs.of_groups restartDual_sessions restartDual_state fun n _ => by rw [restartDual_custodianAt]

theorem setDualWindow_serves (s : State) (v : Arg Nat) : ServesLawful s (setDualWindow v s) :=
  .num fun _ => .ok fun hs => SessionsLawful.restartDual (hs.of_groups rfl rfl fun _ _ => rfl)

/-! ### Every request -/

/-- Table 10-4: each request comes to its owner at its level, and STATUS alone, at the OPERATOR level, is taken in FAILED
mode; ENROL-CUSTODIAN comes at the level of its group (R28). -/
theorem serveRuns_serves {i : Instr} {lv : Level} {tag : Text} (hi : requestOf i = some (lv, tag)) :
    (∃ b h, (∀ s, serveRuns i s = request lv tag b h s) ∧ (lv = .custodian → b = false) ∧ ∀ s, ServesLawful s (h s)) ∨
      ∃ n g l, i = .enrolCustodian tag n g l := by
  have owner (h : State → Answer × State) (hserve : ∀ s, serveRuns i s = request lv tag false h s)
      (hh : ∀ s, ServesLawful s (h s)) : (∃ b h, (∀ s, serveRuns i s = request lv tag b h s) ∧
        (lv = .custodian → b = false) ∧ ∀ s, ServesLawful s (h s)) ∨ ∃ n g l, i = .enrolCustodian tag n g l :=
    .inl ⟨false, h, hserve, fun _ => rfl, hh⟩
  have beside (h : State → Answer × State) (hserve : ∀ s, serveRuns i s = request lv tag false h s)
      (hh : ∀ s, ServesBeside s (h s)) :=
    owner h hserve fun s => (hh s).imp_right fun ⟨hok, hauth⟩ => ⟨hok, fun hs => hs.of_auth hauth⟩
  have reads (h : State → Answer × State) (hserve : ∀ s, serveRuns i s = request lv tag false h s)
      (hh : ∀ s, Ends (· = s) (h s)) := owner h hserve fun s => .reads (hh s)
  cases i <;> simp only [requestOf, Option.some.injEq, Prod.mk.injEq, reduceCtorEq] at hi <;>
    obtain ⟨rfl, rfl⟩ := hi
  case status t => exact .inl ⟨true, status, fun _ => rfl, nofun, fun _ => .reads rfl⟩
  case listSlots t => exact reads listSlots (fun _ => rfl) fun _ => rfl
  case readSlot t n => exact reads (readSlot n) (fun _ => rfl) (readSlot_reads · n)
  case readIssue t n => exact reads (readIssue n) (fun _ => rfl) (readIssue_reads · n)
  case readPlan t n => exact reads (readPlan n) (fun _ => rfl) (readPlan_reads · n)
  case readPlanStep t p w k => exact reads (readPlanStep p w k) (fun _ => rfl) (readPlanStep_reads · p w k)
  case readWindow t w lv => exact reads (readWindow w lv) (fun _ => rfl) (readWindow_reads · w lv)
  case readWindowSummary t lv => exact reads (readWindowSummary lv) (fun _ => rfl) fun _ => rfl
  case readLane t n => exact reads (readLane n) (fun _ => rfl) (readLane_reads · n)
  case readRecord t => exact reads readRecord (fun _ => rfl) readRecord_reads
  case readRecordEntry t n o x => exact reads (readRecordEntry n o x) (fun _ => rfl) (readEntry_reads · n o x _)
  case readRecordDelivery t n o k =>
    exact reads (readRecordDelivery n o k) (fun _ => rfl) (readRecordDelivery_reads · n o k)
  case readRecordVoided t n o x => exact reads (readRecordVoided n o x) (fun _ => rfl) (readEntry_reads · n o x _)
  case readRecordNotes t n o x => exact reads (readRecordNotes n o x) (fun _ => rfl) (readEntry_reads · n o x _)
  case suspendSlot t n => exact beside (suspendSlot n) (fun _ => rfl) (suspendSlot_serves · n)
  case resumeSlot t n => exact beside (resumeSlot n) (fun _ => rfl) (resumeSlot_serves · n)
  case eraseSlot t n => exact beside (eraseSlot n) (fun _ => rfl) (eraseSlot_serves · n)
  case setBudget t n b => exact beside (setBudget n b) (fun _ => rfl) (setBudget_serves · n b)
  case setScrub t v => exact beside (setScrub v) (fun _ => rfl) (setScrub_serves · v)
  case setParityPolicy t p => exact beside (setParityPolicy p) (fun _ => rfl) (setParityPolicy_serves · p)
  case assembleBegin t a => exact beside (assembleBegin a) (fun _ => rfl) (assembleBegin_serves · a)
  case assembleCancel t => exact beside assembleCancel (fun _ => rfl) assembleCancel_serves
  case openIssue t n p f l st th =>
    exact beside (openIssue n p f l st th) (fun _ => rfl) (openIssue_serves · n p f l st th)
  case extendIssue t n l => exact beside (extendIssue n l) (fun _ => rfl) (extendIssue_serves · n l)
  case setIssueWarning t n th => exact beside (setIssueWarning n th) (fun _ => rfl) (setIssueWarning_serves · n th)
  case restart t => exact beside restart (fun _ => rfl) restart_serves
  case acknowledgeTamper t => exact beside acknowledgeTamper (fun _ => rfl) acknowledgeTamper_serves
  case editPlanSet t p k kd a x =>
    exact beside (editPlanStep false p k kd a x) (fun _ => rfl) (editPlanStep_serves · false p k kd a x)
  case editPlanInsert t p k kd a x =>
    exact beside (editPlanStep true p k kd a x) (fun _ => rfl) (editPlanStep_serves · true p k kd a x)
  case editPlanDelete t p k x => exact beside (editPlanDelete p k x) (fun _ => rfl) (editPlanDelete_serves · p k x)
  case editPlanLabel t p l x => exact beside (editPlanLabel p l x) (fun _ => rfl) (editPlanLabel_serves · p l x)
  case discardDraft t p => exact beside (discardDraft p) (fun _ => rfl) (discardDraft_serves · p)
  case installPlan t p => exact beside (installPlan p) (fun _ => rfl) (installPlan_serves · p)
  case removePlan t p => exact beside (removePlan p) (fun _ => rfl) (removePlan_serves · p)
  case setWindow t a lv => exact beside (setWindow a lv) (fun _ => rfl) (setWindow_serves · a lv)
  case setWindowEnabled t w e x lv =>
    exact beside (setWindowEnabled w e x lv) (fun _ => rfl) (setWindowEnabled_serves · w e x lv)
  case clearWindow t w lv => exact beside (clearWindow w lv) (fun _ => rfl) (clearWindow_serves · w lv)
  case setDefaultRoute t r => exact beside (setDefaultRoute r) (fun _ => rfl) (setDefaultRoute_serves · r)
  case setLane t n o r p => exact beside (setLane n o r p) (fun _ => rfl) (setLane_serves · n o r p)
  case queueRun t n p c g => exact beside (queueRun n p c g) (fun _ => rfl) (queueRun_serves · n p c g)
  case abortLane t n f => exact beside (abortLane n f) (fun _ => rfl) (abortLane_serves · n f)
  case clearCounters t n => exact beside (clearCounters n) (fun _ => rfl) (clearCounters_serves · n)
  case discardRecord t n o => exact beside (discardRecord n o) (fun _ => rfl) (discardRecord_serves · n o)
  case removeCustodian t n => exact owner (removeCustodian n) (fun _ => rfl) (removeCustodian_serves · n)
  case unlockCustodian t n => exact owner (unlockCustodian n) (fun _ => rfl) (unlockCustodian_serves · n)
  case setDualWindow t v => exact owner (setDualWindow v) (fun _ => rfl) (setDualWindow_serves · v)
  case enrolCustodian t n g l => exact .inr ⟨n, g, l, rfl⟩

end Sys2Proof.Machine

namespace Sys2Proof.Machine

/-! ## The sessions through the panel, the Cipher Unit and start-up (R34, R37): O24 -/

section
variable {s : State}

/-- R35: a session ends, and the state is derived again. -/
theorem SessionsLawful.dropSession (hs : SessionsLawful s) (id : Nat) (cause : String) :
    SessionsLawful (rederive cause (dropSession id s)) := by
  obtain ⟨hlen, hnodup, hsome, -⟩ := hs
  have hses := dropSession_sessions id s
  refine rederive_lawfulSessions cause ?_ ?_ fun n hn => ?_
  · rw [hses]
    exact (List.length_filter_le ..).trans hlen
  · rw [hses]
    exact hnodup.filter _
  · rw [hses] at hn
    rw [custodianAt_congr (dropSession_roster id s) n]
    exact hsome n (List.mem_of_mem_filter hn)

theorem SessionsLawful.dualExpiry (hs : SessionsLawful s) : SessionsLawful (dualExpiry s) := by
  unfold Machine.dualExpiry
  split
  · exact hs
  · have hnone := dropAll_sessions s
    exact rederive_lawfulSessions _ (by simp [hnone]) (by simp [hnone]) (by simp [hnone])

/-- A session list with one more custodian. -/
theorem insertAsc_perm {n : Nat} {l : List Nat} (h : n ∉ l) : (insertAsc n l).Perm (n :: l) := by
  induction l with
  | nil => exact .refl _
  | cons m l ih =>
    rw [List.mem_cons, not_or] at h
    unfold insertAsc
    split
    · exact .refl _
    · rw [if_neg h.1]
      exact ((ih h.2).cons m).trans (.swap n m l)

/-- R34: a session is added for an entry of the roster. -/
theorem SessionsLawful.openSession (hs : SessionsLawful s) {id : Nat} {c : Custodian} (hc : s.custodianAt id = some c)
    (hid : id ∉ s.auth.sessions) (hlen : s.auth.sessions.length < 2) : SessionsLawful (openSession id c s).2 := by
  obtain ⟨-, hnodup, hsome, -⟩ := hs.setCustodian_group hc (c' := { c with failed := 0 }) rfl
  rw [setCustodian_sessions] at hnodup hsome
  have hperm := insertAsc_perm hid
  have hsome' := group_setCustodian hc (c' := { c with failed := 0 }) rfl id
  refine rederive_lawfulSessions "LOGON" ?_ ?_ fun n hn => ?_
  · simp only [setCustodian_sessions, hperm.length_eq, List.length_cons]
    omega
  · simp only [setCustodian_sessions, hperm.nodup_iff, List.nodup_cons]
    exact ⟨hid, hnodup⟩
  · simp only [setCustodian_sessions, hperm.mem_iff, List.mem_cons] at hn
    change ((s.setCustodian id _).custodianAt n).isSome
    rcases hn with rfl | hn
    · rw [← Option.isSome_map (f := Custodian.group), hsome', hc]
      rfl
    · exact hsome n hn

theorem SessionsLawful.newcode (hs : SessionsLawful s) (id : Nat) (code again : Text) :
    SessionsLawful (newcode id code again s).2 := by
  unfold Machine.newcode
  split
  · exact hs
  · split
    · exact hs
    · rename_i c hc
      split_ifs
      exacts [hs, hs, hs.setCustodian_group hc rfl]

theorem SessionsLawful.logon (hs : SessionsLawful s) (id : Nat) (code : Text) : SessionsLawful (logon id code s).2 := by
  unfold Machine.logon
  split
  · exact hs
  · split
    · exact hs
    · rename_i c hc
      split
      · exact hs
      · exact hs
      · split
        · exact hs
        · rename_i hid
          split
          · exact hs
          · rename_i hlen
            split
            · exact hs.openSession hc (by simpa using hid) (by omega)
            · unfold wrongPasscode
              split <;> exact hs.setCustodian_group hc rfl

theorem SessionsLawful.logoff (hs : SessionsLawful s) (id : Nat) : SessionsLawful (logoff id s).2 := by
  unfold Machine.logoff
  split_ifs
  exacts [hs, hs, hs.dropSession id "LOGOFF"]

variable (s)

@[simp] theorem post_auth (q : Nat) (r : CipherRequest) : (post q r s).1.auth = s.auth :=
  auth_of_outside (post_outside s q r)

theorem component_auth (id : Nat) (key : Text) : (component id key s).2.auth = s.auth := by
  unfold component
  split
  · rfl
  · split_ifs
    iterate 7 rfl
    simp

theorem confirmChecks_auth (id : Nat) {k : Assembly → HeldComponent → PanelAnswer × State}
    (hk : ∀ a c, (k a c).2.auth = s.auth) : (confirmChecks id s k).2.auth = s.auth := by
  unfold confirmChecks
  split
  · rfl
  · split
    · rfl
    · split_ifs
      exacts [rfl, rfl, rfl, hk _ _]

theorem confirmYes_auth (id : Nat) : (confirmYes id s).2.auth = s.auth :=
  confirmChecks_auth s id fun a h => by
    dsimp only
    split <;> simp [finishAssembly]

theorem confirmNo_auth (id : Nat) : (confirmNo id s).2.auth = s.auth := confirmChecks_auth s id fun _ _ => rfl

variable {s}

/-- Table 2-4: the panel's commands. -/
theorem SessionsLawful.panelAnswer (hs : SessionsLawful s) (l : PanelLine) : SessionsLawful (panelAnswer l s).2 := by
  unfold Machine.panelAnswer
  split
  iterate 3 exact hs
  · exact hs.newcode ..
  · exact hs.logon ..
  · exact hs.logoff ..
  · exact hs
  · exact hs.of_auth (component_auth ..)
  · exact hs.of_auth (confirmYes_auth ..)
  · exact hs.of_auth (confirmNo_auth ..)
  · exact hs

/-! ### The Cipher Unit -/

variable (s)

theorem scrubExpiry_auth : (scrubExpiry s).auth = s.auth := by
  unfold scrubExpiry
  split
  · rfl
  · dsimp only
    split
    · rfl
    · split <;> simp

@[simp] theorem raiseBoth_auth (l : Line) : (raiseBoth l s).auth = s.auth := by rw [raiseBoth_eq]

theorem asmCheckDone_auth (k : BitVec 16) (cv : CheckValue) : (asmCheckDone k cv s).auth = s.auth := by
  unfold asmCheckDone
  split
  · rfl
  · split
    · rfl
    · split
      · split <;> simp
      · split
        · simp [State.emptySlot]
        · split <;> simp
      · rfl

theorem asmTagDone_auth (k : BitVec 16) (tag : Text) : (asmTagDone k tag s).auth = s.auth := by
  unfold asmTagDone
  split
  · rfl
  · split
    · rfl
    · split <;> simp

theorem scrubCompare_auth (n : Nat) (k : BitVec 16) (out : Text) (b : Bool) :
    (scrubCompare n k out b s).auth = s.auth := by
  unfold scrubCompare
  split
  · rfl
  · split
    · split
      · split_ifs <;> simp
      · rfl
    · rfl

theorem cipherComplete_auth (b : Bool) : (cipherComplete b s).auth = s.auth := by
  unfold cipherComplete
  split
  · rfl
  · rw [auth_of_outside (unitFree_outside _)]
    split
    · rfl
    · unfold handOutput
      split
      · exact auth_of_outside ((goOn_outside ..).trans (takeOutput_outside ..))
      · exact asmCheckDone_auth ..
      · exact asmTagDone_auth ..
      · exact scrubCompare_auth ..

/-! ### The tamper event, power and start-up (R52) -/

variable {s}

theorem SessionsLawful.tamperEvent (hs : SessionsLawful s) : SessionsLawful (tamperEvent s) := by
  by_cases hp : s.power = true
  · obtain ⟨k, p, h, -⟩ := tamperEvent_powered hp
    have hauth : (Machine.tamperEvent s).auth = (tamperOrders s).auth := by
      rw [h, auth_of_outside (tamperLanes_outside _)]
    exact of_closed (congrArg AuthUnit.sessions hauth) (congrArg AuthUnit.state hauth)
  · unfold Machine.tamperEvent
    rwa [if_pos (by simpa using hp)]

/-- R52: the entries keep their groups. -/
theorem SessionsLawful.tamperPowerOff (hs : SessionsLawful s) : SessionsLawful (tamperPowerOff s) := by
  by_cases hp : s.power = true
  · unfold Machine.tamperPowerOff
    rwa [if_pos hp]
  · rw [tamperPowerOff_off (by simpa using hp)]
    refine hs.of_groups rfl rfl fun n _ => ?_
    rw [tamperRoster_custodianAt (s := s) rfl n, Option.map_map]
    rfl

theorem SessionsLawful.powerLoss (hs : SessionsLawful s) : SessionsLawful (powerLoss s) := by
  unfold Machine.powerLoss
  split
  · exact of_closed rfl rfl
  · exact hs

theorem SessionsLawful.powerOn (hs : SessionsLawful s) : SessionsLawful (powerOn s) := by
  unfold Machine.powerOn
  split
  · exact hs
  · have hreport (u : State) : (reportOff u).auth = u.auth := by
      unfold reportOff
      split
      · rfl
      · exact raiseNotice_auth ..
    dsimp only
    exact of_closed (by rw [hreport]; rfl) (by rw [hreport]; rfl)

theorem SessionsLawful.startUpAfterRestart (hs : SessionsLawful s) : SessionsLawful (startUpAfterRestart s) := by
  unfold Machine.startUpAfterRestart
  split
  · exact of_closed rfl rfl
  · exact hs

theorem selfTestComplete_auth (a b c d : Bool) : (selfTestComplete a b c d s).auth = s.auth := by
  have hstores : (settleStores s).auth = s.auth := by
    obtain ⟨x, hx⟩ := settleStores_eq s
    rw [hx]
  have hann (cause : StartCause) (m : Mode) (k : Nat) (u : State) : (announce cause m k u).auth = u.auth := by
    obtain ⟨p, -, hp⟩ := announce_eq cause m k u
    rw [hp]
  have htested (m : Mode) (u : State) : (unitTested m u).auth = u.auth := by
    cases m with
    | normal => exact auth_of_outside (unitFree_outside _)
    | failed => rfl
  unfold selfTestComplete
  split
  · rfl
  · split
    · rfl
    · exact (htested ..).trans ((hann ..).trans hstores)

/-! ### Every step -/

theorem SessionsLawful.serveRuns (hs : SessionsLawful s) (i : Instr) : SessionsLawful (serveRuns i s) := by
  have hl (s : State) (k : LinkPort) (h : SessionsLawful s) : SessionsLawful { s with link := k } := h.of_auth rfl
  have ha (s : State) (t : Option Nat) (h : SessionsLawful s) :
      SessionsLawful { s with auth := { s.auth with dualTimer := t } } := h.of_groups rfl rfl fun _ _ => rfl
  cases hi : requestOf i with
  | some q =>
    rcases serveRuns_serves hi with ⟨b, h, hserve, -, hh⟩ | ⟨n, g, l, rfl⟩
    · rw [hserve]
      exact request_keeps hl ha (fun u hu => (hh u).keeps hu fun _ ht => ht hu) hs
    · exact request_keeps hl ha
        (fun u hu => (enrolCustodian_serves n g l u).keeps hu.restartDual fun _ ht => ht hu.restartDual) hs
  | none =>
    cases i <;> simp only [requestOf, reduceCtorEq] at hi
    all_goals exact hs

/-- Each block keeps the law of the sessions; what stands outside every run is not touched by the lanes. -/
theorem sessionsLawful_kept : Kept SessionsLawful where
  link _ _ h := h.of_auth rfl
  panel _ _ h := h.of_auth rfl
  pending _ _ h := h.of_auth rfl
  dualTimer _ _ h := h.of_groups rfl rfl fun _ _ => rfl
  serveRuns i _ h := h.serveRuns i
  panelAnswer l _ h := h.panelAnswer l
  dualExpiry _ h := h.dualExpiry
  scrubExpiry s h := h.of_auth (scrubExpiry_auth s)
  cipherComplete b s h := h.of_auth (cipherComplete_auth s b)
  beginWaiting n s h := h.of_auth (auth_of_outside (beginWaiting_outside n s))
  transmitEnd n s h := h.of_auth (auth_of_outside (transmitEnd_outside n s))
  benchFrame n k b c x s h := h.of_auth (auth_of_outside (benchFrame_outside n s k b c x))
  overlongHeader n s h := h.of_auth (auth_of_outside (overlongHeader_outside n s))
  benchCharacter n c p x s h := h.of_auth (auth_of_outside (benchCharacter_outside n s c p x))
  gapExpiry n s h := h.of_auth (auth_of_outside (gapExpiry_outside n s))
  timerExpiry n s h := h.of_auth (auth_of_outside (timerExpiry_outside n s))
  contactChange n b s h := h.of_auth (auth_of_outside (contactChange_outside n s b))
  settleExpiry n s h := h.of_auth (auth_of_outside (settleExpiry_outside n s))
  retryReservation n s h := h.of_auth (auth_of_outside (retryReservation_outside n s))
  tamperEvent _ h := h.tamperEvent
  tamperPowerOff _ h := h.tamperPowerOff
  powerOn _ h := h.powerOn
  startUpAfterRestart _ h := h.startUpAfterRestart
  powerLoss _ h := h.powerLoss
  selfTestComplete a b c d _ h := h.of_auth (selfTestComplete_auth a b c d)

end

/-- Settles O24: each block keeps the law (`sessionsLawful_kept`), and the state is read off the sessions it allows. -/
theorem sessionsLawKept : Obligations.SessionsLawKept :=
  ⟨fun _ _ hs h => sessionsLawful_kept.step hs h, fun _ hs => ⟨hs.dual_iff, hs.none_iff⟩⟩

end Sys2Proof.Machine

namespace Sys2Proof.Machine

/-! ## Requests that are refused (R39, R175, R176): O2, O3 -/

section
variable {s : State} {tag : Text} {lv : Level} {b : Bool} {h : State → Answer × State} {l : Line}

/-- R177: an answer that begins `tag ERR` is a refusal. -/
theorem line_err {a : Answer} (ha : (a.line tag)[1]? = some (.word "ERR")) : ∃ c f, a = .err c f := by
  cases a with
  | ok f => simp [Answer.line] at ha
  | err c f => exact ⟨c, f, rfl⟩

/-- Table 10-1, steps 4, 7 and 8: a request is answered by the port, or reaches its owner. -/
theorem request_heard_cases (lv : Level) (tag : Text) (b : Bool) (h : State → Answer × State) (s : State) :
    ((∃ c, request lv tag b h (heard s) = setReply ((Answer.err c []).line tag) (heard s)) ∧
      ¬ (s.mode = .normal ∧ admitted lv s = true)) ∨
    (request lv tag b h (heard s) = setReply ((h (heardAt lv s)).1.line tag) (h (heardAt lv s)).2 ∧
      admitted lv s = true ∧ (s.mode = .failed → b = true)) := by
  have hadm : admitted lv (heard s) = admitted lv s := by cases lv <;> rfl
  unfold request
  rw [hadm]
  split
  · rename_i hf
    exact .inl ⟨⟨_, rfl⟩, fun hn => by simp [hn.1] at hf⟩
  · rename_i hf
    split
    · rename_i ha
      exact .inl ⟨⟨_, rfl⟩, fun hn => by simp [hn.2] at ha⟩
    · rename_i ha
      refine .inr ⟨by cases lv <;> rfl, by simpa using ha, fun hm => ?_⟩
      simpa [hm] using hf

/-- R175: where an owner's refusal leaves `v`, a refused request leaves the state as it was heard, or `v`. -/
theorem request_refused {v : State} (hreply : (request lv tag b h (heard s)).link.reply = some l)
    (herr : l[1]? = some (.word "ERR"))
    (hv : ∀ c f, (h (heardAt lv s)).1 = .err c f → (h (heardAt lv s)).2 = v) :
    (request lv tag b h (heard s) = setReply l (heard s) ∧ ¬ (s.mode = .normal ∧ admitted lv s = true)) ∨
    (request lv tag b h (heard s) = setReply l v ∧ admitted lv s = true ∧ (s.mode = .failed → b = true)) := by
  rcases request_heard_cases lv tag b h s with ⟨⟨c, hc⟩, hn⟩ | ⟨hr, ha, hm⟩
  · rw [hc] at hreply ⊢
    cases hreply
    exact .inl ⟨rfl, hn⟩
  · rw [hr] at hreply ⊢
    cases hreply
    obtain ⟨c, f, hcf⟩ := line_err herr
    exact .inr ⟨by rw [hv c f hcf], ha, hm⟩

theorem admitted_custodian : admitted .custodian s = true ↔ s.auth.state = .dual := by simp [admitted]

/-- R39: in DUAL every level is admitted. -/
theorem admitted_dual (lv : Level) (hd : s.auth.state = .dual) : admitted lv s = true := by
  cases lv with
  | operator => rfl
  | custodian => exact admitted_custodian.2 hd

/-- R38: outside DUAL no timer is restarted. -/
theorem heardDual_outside (hd : s.auth.state ≠ .dual) : heardDual s = heard s := if_neg hd

end

/-- Settles O2: an owner's refusal changes nothing (`serveRuns_serves`, `enrolCustodian_serves`), and the port's own leaves
the state as it was heard (`request_refused`). -/
theorem refusedRequestChangesNothing : Obligations.RefusedRequestChangesNothing := by
  intro i s l lv tag hi hr hreply herr
  rw [lineEnds_ready hr] at hreply ⊢
  rcases serveRuns_serves hi with ⟨b, h, hserve, hb, hh⟩ | ⟨n, g, lab, rfl⟩
  · rw [hserve] at hreply ⊢
    rcases request_refused hreply herr fun c f hc => (hh _).unchanged hc with ⟨heq, hn⟩ | ⟨heq, ha, hm⟩
    · exact ⟨fun _ => heq, fun _ hnormal hd => absurd ⟨hnormal, admitted_dual lv hd⟩ hn⟩
    · cases lv with
      | operator => exact ⟨fun _ => heq, nofun⟩
      | custodian =>
        refine ⟨fun hor => ?_, fun _ _ _ => heq⟩
        rcases hor with hop | hf | hd
        · cases hop
        · exact absurd (hm hf) (by simp [hb rfl])
        · exact absurd (admitted_custodian.1 ha) hd
  · obtain rfl : Level.custodian = lv := by simpa [requestOf] using hi
    have hserve : serveRuns (.enrolCustodian tag n g lab) (heard s) =
        request (enrolLevel g (heard s)) tag false (enrolCustodian n g lab) (heard s) := rfl
    have hdual (lv : Level) : restartDual (heardAt lv s) = heardDual s := by
      cases lv with
      | operator => rfl
      | custodian => exact restartDual_idem (heard s)
    rw [hserve] at hreply ⊢
    rcases request_refused hreply herr fun c f hc =>
      ((enrolCustodian_serves n g lab _).unchanged hc).trans (hdual _) with ⟨heq, hn⟩ | ⟨heq, -, hm⟩
    · exact ⟨fun _ => heq, fun _ hnormal hd => absurd ⟨hnormal, admitted_dual _ hd⟩ hn⟩
    · refine ⟨fun hor => ?_, fun _ _ _ => heq⟩
      rcases hor with hop | hf | hd
      · cases hop
      · cases hm hf
      · rw [heq, heardDual_outside hd]

/-- Settles O3: the level at which a request comes to its owner (`serveRuns_request`), and the port's answer where it is not
admitted. -/
theorem requestsNotAdmitted : Obligations.RequestsNotAdmitted := by
  refine ⟨fun s tag i hs hd hi henrol => ?_, fun s i lv tag hr hf hi hstatus => ?_⟩
  · obtain ⟨lv, b, h, hserve, -, hlv⟩ := serveRuns_request hi (heard s)
    have hcustodian : lv = .custodian := by
      rcases hlv with rfl | ⟨n, g, l, rfl, rfl⟩
      · rfl
      · cases g with
        | val g => exact if_pos (henrol n g l rfl)
        | absent => rfl
        | malformed => rfl
    rw [hcustodian] at hserve
    rw [exec_request hi, requestLine_unadmitted hs hd hserve]
  · obtain ⟨lv', b, h, hserve, hb, -⟩ := serveRuns_request hi (heard s)
    obtain rfl : b = false := by
      cases b with
      | false => rfl
      | true => exact absurd (hb rfl) hstatus
    rw [exec_request hi, requestLine, lineEnds_ready hr, hserve, request_failed (s := heard s) hf]
    rfl

end Sys2Proof.Machine

namespace Sys2Proof.Machine

/-! ## The panel's answers (R31, R32, R38) -/

section
variable {s t : State} {f : State → PanelAnswer × State}

/-- R31, R38: a line answered OK puts its reply before the messages raised at its event, and touches no more than the
panel and the dual window timer. -/
theorem panelServe_ok {items : List Item} (hf : f s = (.ok items, t)) :
    ∃ p, panelServe f s = { restartDual t with panel := p } ∧ (∀ more, t.panel.out = s.panel.out ++ more →
      p.out[s.panel.out.length]? = some { isReply := true, line := .word "OK" :: items }) := by
  unfold panelServe
  rw [hf]
  refine ⟨_, rfl, fun more hmore => ?_⟩
  simp [hmore, PanelAnswer.line]

/-- R31: a line answered ERR whose command leaves the panel's queue alone. -/
theorem panelLine_erred_after {i : Instr} {e : PanelErr} (hp : PanelReady s)
    (hf : panelAnswer (.command i) (panelHeard s) = (.err e, t)) (hq : t.panel = s.panel.fresh) :
    panelLine i s = .next (panelErred e t) := by
  rw [panelLine_ready hp, panelServe, hf]
  simp [panelErred, PanelAnswer.line, hq, panelHeard]

@[simp] theorem panelHeard_auth : (panelHeard s).auth = s.auth := rfl

end

/-! ## NEWCODE and LOGON (R33, R34): O15 -/

section
variable {s : State} {n : Nat} {c : Custodian} {code again : Text}

/-- R33, R34: the first check passes. -/
theorem id_inRange (h1 : 1 ≤ n) (h2 : n ≤ 12) : (decide (n = 0) || decide (12 < n)) = false := by
  simp only [Bool.or_eq_false_iff, decide_eq_false_iff_not]
  omega

theorem newcode_range (h : n = 0 ∨ 12 < n ∨ isPasscode code = false ∨ isPasscode again = false) :
    newcode n code again s = panelRefuse .range s := by
  refine if_pos ?_
  simpa [or_assoc] using h

theorem logon_range (h : n = 0 ∨ 12 < n ∨ isPasscode code = false) : logon n code s = panelRefuse .range s := by
  refine if_pos ?_
  simpa [or_assoc] using h

section inRange
variable (h1 : 1 ≤ n) (h2 : n ≤ 12) (hcode : isPasscode code = true)
include h1 h2 hcode

theorem newcode_other (hagain : isPasscode again = true) (h : (s.custodianAt n).map Custodian.state ≠ some .pending) :
    newcode n code again s = panelRefuse .wrongState s := by
  cases hc : s.custodianAt n with
  | none => simp [newcode, id_inRange h1 h2, hcode, hagain, hc]
  | some c =>
    rw [hc] at h
    simp only [Option.map_some, ne_eq, Option.some.injEq] at h
    simp [newcode, id_inRange h1 h2, hcode, hagain, hc, h]

/-- R33: a PENDING entry takes the passcode that is given twice. -/
theorem newcode_pending_entry (hagain : isPasscode again = true) (hc : s.custodianAt n = some c)
    (hst : c.state = .pending) : newcode n code again s = if code ≠ again then panelRefuse .mismatch s
      else (.ok [.word "NEWCODE", fId n, fState "ENROLLED"],
        s.setCustodian n (some { c with state := .enrolled, verifier := some ⟨code⟩, failed := 0 })) := by
  simp [newcode, id_inRange h1 h2, hcode, hagain, hc, hst]

theorem logon_empty (hc : s.custodianAt n = none) : logon n code s = panelRefuse .notEnrolled s := by
  simp [logon, id_inRange h1 h2, hcode, hc]

theorem logon_pending_entry (hc : s.custodianAt n = some c) (hst : c.state = .pending) :
    logon n code s = panelRefuse .notEnrolled s := by simp [logon, id_inRange h1 h2, hcode, hc, hst]

theorem logon_locked (hc : s.custodianAt n = some c) (hst : c.state = .locked) :
    logon n code s = panelRefuse .locked s := by simp [logon, id_inRange h1 h2, hcode, hc, hst]

/-- R34, checks 3 to 5: an ENROLLED entry. -/
theorem logon_enrolled (hc : s.custodianAt n = some c) (hst : c.state = .enrolled) : logon n code s =
    if s.auth.sessions.contains n then panelRefuse .already s
    else if 2 ≤ s.auth.sessions.length then panelRefuse .panelFull s
    else if c.verifier = some ⟨code⟩ then openSession n c s
    else wrongPasscode n c s := by simp [logon, id_inRange h1 h2, hcode, hc, hst]

end inRange

/-! ### The session that a good logon opens (R34, R37, R38) -/

theorem cancelAssembly_none (cause : String) (h : s.asm.record = none) : cancelAssembly cause s = s := by
  simp [cancelAssembly, h]

/-- R37: where no assembly is cancelled, the derivation touches the Authorisation Unit and tells host and panel. -/
theorem rederive_quiet (cause : String) (h : authOf (sessionGroups s) ≠ .none ∨ s.asm.record = none) : ∃ a k more,
    rederive cause s = { s with auth := a, link := k, panel := { s.panel with out := s.panel.out ++ more } } := by
  obtain ⟨k, more, htold⟩ := tellAuth_eq cause s.reauthorised
  rw [rederive_eq]
  split
  · exact ⟨s.auth, s.link, [], by simp⟩
  · split
    · rename_i hnone
      rw [cancelAssembly_none, htold]
      · exact ⟨_, _, more, rfl⟩
      · rw [htold]
        exact h.resolve_left (not_not.2 hnone)
    · rw [htold]
      exact ⟨_, _, more, rfl⟩

/-! A good logon writes the count to 0, adds the session and derives the state again. -/

/-- The state in which the derivation finds the sessions. -/
def State.withSession (s : State) (n : Nat) (c : Custodian) : State :=
  { s.setCustodian n (some { c with failed := 0 }) with
    auth := { (s.setCustodian n (some { c with failed := 0 })).auth with sessions := insertAsc n s.auth.sessions } }

/-- R34: the state after a good logon of entry `n`, which held `c`. -/
def State.loggedOn (s : State) (n : Nat) (c : Custodian) : State := rederive "LOGON" (s.withSession n c)

theorem openSession_eq (n : Nat) (c : Custodian) (s : State) : openSession n c s =
    (.ok [.word "LOGON", fId n, .field "LABEL" (.label c.label), .field "AUTH" (.word (s.loggedOn n c).auth.state.word)],
      s.loggedOn n c) := by
  simp only [openSession, State.loggedOn, State.withSession, setCustodian_sessions]

theorem loggedOn_sessions : (s.loggedOn n c).auth.sessions = insertAsc n s.auth.sessions := rederive_sessions ..

theorem loggedOn_custodianAt (k : Nat) :
    (s.loggedOn n c).custodianAt k = (s.setCustodian n (some { c with failed := 0 })).custodianAt k :=
  rederive_custodianAt "LOGON" (s.withSession n c) k

theorem loggedOn_dualWindow : (s.loggedOn n c).auth.dualWindow = s.auth.dualWindow :=
  (rederive_dualWindow ..).trans (setCustodian_dualWindow ..)

/-- R37: the state follows from the sessions and the groups of their entries as they stood before. -/
theorem loggedOn_state (hc : s.custodianAt n = some c) : (s.loggedOn n c).auth.state =
    authOf ((insertAsc n s.auth.sessions).map fun id => (s.custodianAt id).map Custodian.group) :=
  (rederive_state ..).trans (congrArg authOf (List.map_congr_left fun id _ =>
    group_setCustodian (c' := { c with failed := 0 }) hc rfl id))

/-- R37: two sessions are DUAL where their groups differ, in either order of their ids. -/
theorem authOf_insertAsc {k : Nat} {d : Custodian} (hne : n ≠ k) (hc : s.custodianAt n = some c)
    (hd : s.custodianAt k = some d) :
    authOf ((insertAsc n [k]).map fun id => (s.custodianAt id).map Custodian.group) =
      if d.group = c.group then .single else .dual := by
  by_cases hlt : n < k
  · simp only [insertAsc, if_pos hlt, List.map_cons, List.map_nil, hc, hd, Option.map_some]
    exact if_congr eq_comm rfl rfl
  · simp only [insertAsc, if_neg hlt, if_neg hne, List.map_cons, List.map_nil, hc, hd, Option.map_some]
    rfl

theorem insertAsc_ne_nil (l : List Nat) : insertAsc n l ≠ [] := by
  cases l with
  | nil => simp [insertAsc]
  | cons m l => unfold insertAsc; split_ifs <;> simp

/-- A good logon touches the Authorisation Unit and the two ports alone, the panel's queue at its end. -/
theorem loggedOn_eq (hc : s.custodianAt n = some c) : ∃ a k more,
    s.loggedOn n c = { s with auth := a, link := k, panel := { s.panel with out := s.panel.out ++ more } } := by
  have hne : authOf (sessionGroups (s.withSession n c)) ≠ .none := by
    rw [← rederive_state "LOGON", ← State.loggedOn, loggedOn_state hc, ne_eq, authOf_eq_none, List.map_eq_nil_iff]
    exact insertAsc_ne_nil _
  obtain ⟨a, k, more, h⟩ := rederive_quiet "LOGON" (.inl hne)
  obtain ⟨r, hr⟩ := setCustodian_eq s n (some { c with failed := 0 })
  refine ⟨a, k, more, ?_⟩
  rw [State.loggedOn, h, State.withSession, hr]

/-- R34: a good logon, from its line to the transmitter. -/
theorem exec_logon_good (hp : PanelReady s) (hn1 : 1 ≤ n) (hn2 : n ≤ 12) (hcode : isPasscode code = true)
    (hc : s.custodianAt n = some c) (hst : c.state = .enrolled) (hid : n ∉ s.auth.sessions)
    (hlen : s.auth.sessions.length < 2) (hv : c.verifier = some ⟨code⟩) : ∃ p,
    exec (.logon n code) s = .next (pump { restartDual ((panelHeard s).loggedOn n c) with panel := p }) ∧
    p.out[s.panel.out.length]? = some { isReply := true, line :=
      [.word "OK", .word "LOGON", .field "ID" (.num n), .field "LABEL" (.label c.label),
        .field "AUTH" (.word (restartDual ((panelHeard s).loggedOn n c)).auth.state.word)] } := by
  have hlogon : panelAnswer (.command (.logon n code)) (panelHeard s) = openSession n c (panelHeard s) :=
    (logon_enrolled (s := panelHeard s) hn1 hn2 hcode hc hst).trans ((if_neg (by simpa using hid)).trans
      ((if_neg (by simpa using hlen)).trans (if_pos hv)))
  rw [openSession_eq] at hlogon
  obtain ⟨p, hserve, hout⟩ := panelServe_ok hlogon
  obtain ⟨a, k, more, heq⟩ := loggedOn_eq (s := panelHeard s) hc
  refine ⟨p, by rw [← hserve]; exact panelLine_ready hp _, ?_⟩
  rw [restartDual_state]
  exact hout more (by rw [heq])

end

/-- Settles O15: NEWCODE and LOGON by their checks in order, and the session of a good logon by the derivation of the state
from the sessions (`loggedOn_state`). -/
theorem passcodeLines : Obligations.PasscodeLines := by
  refine ⟨fun s n code again hp => ⟨fun h => ?_, fun h1 h2 hcode hagain => ⟨fun h => ?_, fun c hc hst => ?_⟩⟩,
    fun s n code hp => ⟨fun h => ?_, fun h1 h2 hcode => ⟨fun h => ?_, fun c hc => ⟨fun h => ?_, fun h => ?_,
      fun h => ?_⟩⟩⟩,
    fun s n c code hp h1 h2 hcode hc hst hmem hlen hv => ?_,
    fun s n c code hp hs h1 h2 hcode hc hst hmem hlen hv => ?_⟩
  · exact panelLine_erred hp (newcode_range h)
  · exact panelLine_erred hp (newcode_other h1 h2 hcode hagain h)
  · have hnew := newcode_pending_entry (s := panelHeard s) h1 h2 hcode hagain hc hst
    exact ⟨fun hne => panelLine_erred hp (hnew.trans (if_pos hne)),
      fun heq => panelLine_said hp (hnew.trans (if_neg (not_not.2 heq))) (setCustodian_panel ..)⟩
  · exact panelLine_erred hp (logon_range h)
  · exact panelLine_erred hp (logon_empty h1 h2 hcode h)
  · exact panelLine_erred hp (logon_pending_entry (s := panelHeard s) h1 h2 hcode hc h)
  · exact panelLine_erred hp (logon_locked (s := panelHeard s) h1 h2 hcode hc h)
  · have hlogon := logon_enrolled (s := panelHeard s) h1 h2 hcode hc h
    exact ⟨fun hmem => panelLine_erred hp (hlogon.trans (if_pos (by simpa using hmem))),
      fun hmem hlen => panelLine_erred hp (hlogon.trans ((if_neg (by simpa using hmem)).trans (if_pos hlen)))⟩
  · have hwrong : logon n code (panelHeard s) = wrongPasscode n c (panelHeard s) :=
      (logon_enrolled (s := panelHeard s) h1 h2 hcode hc hst).trans ((if_neg (by simpa using hmem)).trans
        ((if_neg (by simpa using hlen)).trans (if_neg hv)))
    exact ⟨fun hfew => panelLine_erred_after hp (hwrong.trans (if_pos (by omega))) (setCustodian_panel ..),
      fun hthird => panelLine_erred_after hp (hwrong.trans (if_neg (by omega))) (setCustodian_panel ..)⟩
  · obtain ⟨p, hexec, hout⟩ := exec_logon_good hp h1 h2 hcode hc hst hmem hlen hv
    have hstate : (restartDual ((panelHeard s).loggedOn n c)).auth.state = _ :=
      restartDual_state.trans (loggedOn_state (s := panelHeard s) hc)
    have hat (k : Nat) : (restartDual ((panelHeard s).loggedOn n c)).custodianAt k = _ :=
      (restartDual_custodianAt k).trans (loggedOn_custodianAt (s := panelHeard s) k)
    refine ⟨_, hexec, restartDual_sessions.trans loggedOn_sessions, ?_, fun k hk => ?_, fun hnil => ?_,
      fun k d hses hd => ?_, ?_, ?_⟩
    · exact (hat n).trans ((custodianAt_setCustodian ..).trans (if_pos ⟨rfl, h1, h2⟩))
    · exact (hat k).trans (custodianAt_setCustodian_ne _ _ _ _ hk.symm)
    · refine hstate.trans ?_
      rw [panelHeard_auth, hnil]
      exact authOf_single _
    · have hpair : (restartDual ((panelHeard s).loggedOn n c)).auth.state =
          if d.group = c.group then .single else .dual := by
        rw [hstate, panelHeard_auth, hses]
        exact authOf_insertAsc (by simpa [hses] using hmem) hc hd
      refine ⟨fun hg => hpair.trans (if_pos hg), fun hg => ?_⟩
      have hdual := hpair.trans (if_neg hg)
      refine ⟨hdual, ?_⟩
      rw [restartDual_state] at hdual
      change (restartDual _).auth.dualTimer = _
      rw [restartDual_eq, if_pos hdual, loggedOn_dualWindow]
      rfl
    · exact hout
    · obtain ⟨a, k, more, heq⟩ := loggedOn_eq (s := panelHeard s) hc
      rw [restartDual_eq, heq]
      rfl

end Sys2Proof.Machine

namespace Sys2Proof.Machine

/-! ## LOGOFF and the expiry of the dual window (R35, R38, R49, R50): O16 -/

section
variable {s : State}

/-- R50: a cancelled assembly leaves its slot EMPTY. -/
theorem cancelAssembly_record (cause : String) : (cancelAssembly cause s).asm.record = none := by
  unfold cancelAssembly
  split
  · assumption
  · rw [raiseBoth_eq]
    rfl

theorem cancelAssembly_slotAt (cause : String) {a : Assembly} (ha : s.asm.record = some a) (h : a.slot < 64) :
    (cancelAssembly cause s).slotAt a.slot = none := by
  simp only [cancelAssembly, ha]
  rw [raiseBoth_eq]
  exact emptySlot_slotAt (withdraw reqAssembler s) a.slot h

/-- R37, R50: a derivation that comes to NONE cancels the open assembly. -/
theorem rederive_cancels (cause : String) (hnone : authOf (sessionGroups s) = .none) (hst : s.auth.state ≠ .none) :
    (rederive cause s).asm.record = none ∧
      ∀ a, s.asm.record = some a → a.slot < 64 → (rederive cause s).slotAt a.slot = none := by
  obtain ⟨k, more, htold⟩ := tellAuth_eq cause s.reauthorised
  rw [rederive_eq, if_neg (fun h => hst (h.symm.trans hnone)), if_pos hnone]
  refine ⟨cancelAssembly_record _, fun a ha hslot => cancelAssembly_slotAt _ ?_ hslot⟩
  rw [htold]
  exact ha

/-! Sessions that end leave the open assembly on its slot, and touch no assembly where none is open. -/

theorem dropSession_slot (id : Nat) :
    (dropSession id s).asm.record.map Assembly.slot = s.asm.record.map Assembly.slot := by
  obtain ⟨u, p, r, h, hr⟩ :=
    discardHeld_eq id { s with auth := { s.auth with sessions := s.auth.sessions.filter (· ≠ id) } }
  rw [dropSession, h]
  exact hr

theorem dropSession_none (id : Nat) (h : s.asm.record = none) :
    dropSession id s = { s with auth := { s.auth with sessions := s.auth.sessions.filter (· ≠ id) } } := by
  simp only [dropSession, discardHeld, h]

theorem dropSessions_slot (l : List Nat) :
    (l.foldl (fun t id => dropSession id t) s).asm.record.map Assembly.slot = s.asm.record.map Assembly.slot := by
  induction l generalizing s with
  | nil => rfl
  | cons id l ih => exact ih.trans (dropSession_slot id)

theorem dropSessions_none (l : List Nat) (h : s.asm.record = none) :
    ∃ a, l.foldl (fun t id => dropSession id t) s = { s with auth := a } := by
  induction l generalizing s with
  | nil => exact ⟨s.auth, rfl⟩
  | cons id l ih =>
    rw [List.foldl_cons, dropSession_none id h]
    exact ih (s := { s with auth := _ }) h

/-- The slot of an assembly that is open on the same slot after as before. -/
theorem slot_of_map_eq {t : State} (h : t.asm.record.map Assembly.slot = s.asm.record.map Assembly.slot) {a : Assembly}
    (ha : s.asm.record = some a) : ∃ b, t.asm.record = some b ∧ b.slot = a.slot := by
  rw [ha] at h
  exact Option.map_eq_some_iff.1 h

/-- R50: what the end of sessions leaves of the open assembly, where the state comes to NONE. -/
theorem rederive_cancels_dropped (cause : String) {t : State} (hsessions : t.auth.sessions = [])
    (hst : t.auth.state ≠ .none) (hslot : t.asm.record.map Assembly.slot = s.asm.record.map Assembly.slot) :
    (rederive cause t).asm.record = none ∧
      ∀ a, s.asm.record = some a → a.slot < 64 → (rederive cause t).slotAt a.slot = none := by
  obtain ⟨hrecord, hempty⟩ := rederive_cancels cause (s := t) (authOf_eq_none.2 (sessionGroups_eq_nil.2 hsessions)) hst
  refine ⟨hrecord, fun a ha h => ?_⟩
  obtain ⟨b, hb, hba⟩ := slot_of_map_eq hslot ha
  rw [← hba]
  exact hempty b hb (hba ▸ h)

/-- R35: LOGOFF of a custodian with a session, from its line to the transmitter. -/
theorem exec_logoff {n : Nat} (hp : PanelReady s) (h1 : 1 ≤ n) (h2 : n ≤ 12) (hn : n ∈ s.auth.sessions) :
    ∃ p, exec (.logoff n) s =
      .next (pump { restartDual (rederive "LOGOFF" (dropSession n (panelHeard s))) with panel := p }) := by
  have hlogoff : panelAnswer (.command (.logoff n)) (panelHeard s) =
      (.ok [.word "LOGOFF", fId n, .field "AUTH" (.word (rederive "LOGOFF" (dropSession n (panelHeard s))).auth.state.word)],
        rederive "LOGOFF" (dropSession n (panelHeard s))) :=
    (if_neg (by rw [id_inRange h1 h2]; exact Bool.false_ne_true)).trans (if_neg (by simpa using hn))
  obtain ⟨p, hserve, -⟩ := panelServe_ok hlogoff
  exact ⟨p, by rw [← hserve]; exact panelLine_ready hp _⟩

/-- R37: the state that a LOGOFF leaves. -/
theorem logoff_state {n : Nat} (hs : SessionsLawful s) (hn : n ∈ s.auth.sessions) (cause : String) :
    (rederive cause (dropSession n s)).auth.state = if s.auth.sessions.length = 1 then .none else .single := by
  rw [rederive_state, sessionGroups, dropSession_sessions]
  rcases hs.cases with ⟨hl, -⟩ | ⟨k, c, hl, -⟩ | ⟨m, k, c, d, hl, hmk, -⟩ <;> rw [hl] at hn ⊢
  · cases hn
  · obtain rfl : n = k := by simpa using hn
    simp [authOf]
  · have hleft : ∃ x, [m, k].filter (· ≠ n) = [x] := by
      rcases List.mem_pair.1 hn with rfl | rfl
      · exact ⟨k, by simp [hmk.symm]⟩
      · exact ⟨m, by simp [hmk]⟩
    obtain ⟨x, hx⟩ := hleft
    rw [hx]
    exact authOf_single _

/-- R38: the running dual window timer expires. -/
theorem exec_dualExpiry (ht : s.auth.dualTimer.isSome) : exec .dualWindowExpiry s =
    .next (pump (rederive "EXPIRY" (s.auth.sessions.foldl (fun t id => dropSession id t) s))) := by
  obtain ⟨w, hw⟩ := Option.isSome_iff_exists.1 ht
  change finish (dualExpiry s) = _
  simp only [dualExpiry, hw, finish]

end

/-- Settles O16: the sessions by `dropSession`, the state by its derivation, and the assembly by `rederive_cancels`. -/
theorem sessionsEnd : Obligations.SessionsEnd := by
  refine ⟨fun s n hp hs h1 h2 => ⟨fun hn => ?_, fun hn => ?_⟩, fun s => ⟨fun ht => ?_, fun ht hd => ?_⟩⟩
  · have hlogoff : logoff n (panelHeard s) = panelRefuse .notLoggedOn (panelHeard s) :=
      (if_neg (by rw [id_inRange h1 h2]; exact Bool.false_ne_true)).trans (if_pos (by simpa using hn))
    exact panelLine_erred hp hlogoff
  · obtain ⟨p, hexec⟩ := exec_logoff hp h1 h2 hn
    have hheard : SessionsLawful (panelHeard s) := hs.of_auth rfl
    have hstate := logoff_state hheard hn "LOGOFF"
    refine ⟨_, hexec, ?_, ?_, restartDual_state.trans hstate, fun hlen => ?_, fun hrec => ?_⟩
    · exact restartDual_sessions.trans ((rederive_sessions ..).trans (dropSession_sessions ..))
    · exact restartDual_roster.trans ((rederive_roster ..).trans (dropSession_roster ..))
    · have hsessions : (dropSession n (panelHeard s)).auth.sessions = [] := by
        rw [← sessionGroups_eq_nil, ← authOf_eq_none, ← rederive_state "LOGOFF", hstate]
        exact if_pos hlen
      have hst : (dropSession n (panelHeard s)).auth.state ≠ .none := by
        rw [dropSession_auth]
        exact fun hnone => by simp [hs.none_iff.1 hnone] at hn
      obtain ⟨hrecord, hempty⟩ := rederive_cancels_dropped (s := s) "LOGOFF" hsessions hst (dropSession_slot n)
      exact ⟨(congrArg Assembler.record restartDual_asm).trans hrecord,
        fun a ha hslot => (restartDual_slotAt a.slot).trans (hempty a ha hslot)⟩
    · obtain ⟨a, k, more, heq⟩ := rederive_quiet (s := dropSession n (panelHeard s)) "LOGOFF"
        (.inr (by rw [dropSession_none (s := panelHeard s) n hrec]; exact hrec))
      rw [restartDual_eq, heq, dropSession_none (s := panelHeard s) n hrec]
      rfl
  · change finish (dualExpiry s) = _
    simp only [dualExpiry, ht, finish]
  · have hdropped := dropAll_auth s
    have hnone := authOf_eq_none.2 (sessionGroups_eq_nil.2 (dropAll_sessions s))
    have hst : (s.auth.sessions.foldl (fun t id => dropSession id t) s).auth.state = .dual := by rw [hdropped]; exact hd
    obtain ⟨hrecord, hempty⟩ := rederive_cancels_dropped (s := s) "EXPIRY" (dropAll_sessions s) (by simp [hst])
      (dropSessions_slot s.auth.sessions)
    refine ⟨_, exec_dualExpiry ht, ?_, hrecord, hempty, fun hrec => ?_⟩
    · change (rederive _ _).auth = _
      rw [rederive_auth, hnone, hst, if_neg nofun, if_neg nofun, hdropped]
    · obtain ⟨b, hb⟩ := dropSessions_none s.auth.sessions hrec
      obtain ⟨a, k, more, heq⟩ := rederive_quiet (s := s.auth.sessions.foldl (fun t id => dropSession id t) s) "EXPIRY"
        (.inr (by rw [hb]; exact hrec))
      rw [heq, hb]
      rfl

end Sys2Proof.Machine

namespace Sys2Proof.Machine

/-! ## The requests on the roster and the dual window (R28 to R30, R40): O12, O13, O14 -/

section
variable {s : State} {tag : Text} {n : Nat} {group : Arg Group} {label : Arg Text}

/-- R28 to R30: a number that is no entry's. -/
theorem id_outside (h : n = 0 ∨ 12 < n) : (decide (n = 0) || decide (12 < n)) = true := by simpa using h

/-- R38, R39: the owner restarts the dual window timer itself, so it does not matter at which level it is reached. -/
theorem enrolCustodian_restartDual (id : Arg Nat) (g : Arg Group) (l : Arg Text) (s : State) :
    enrolCustodian id g l (restartDual s) = enrolCustodian id g l s := by simp only [enrolCustodian, restartDual_idem]

/-- R28, R176: ENROL-CUSTODIAN reaches its owner for a group with no ENROLLED member, and in DUAL. -/
theorem exec_enrolCustodian {id : Arg Nat} (hr : OperatorReady s)
    (hd : (∀ g, group = .val g → groupEnrolled g s = true) → s.auth.state = .dual) :
    exec (.enrolCustodian tag id group label) s = .next (pump (setReply
      ((enrolCustodian id group label (heardDual s)).1.line tag) (enrolCustodian id group label (heardDual s)).2)) := by
  change requestLine _ s = _
  have hserve : serveRuns (.enrolCustodian tag id group label) (heard s) =
    request (enrolLevel group s) tag false (enrolCustodian id group label) (heard s) := rfl
  cases hlv : enrolLevel group s with
  | operator =>
    rw [requestLine_operator hr (hserve.trans (by rw [hlv])), ← enrolCustodian_restartDual]
    rfl
  | custodian =>
    refine requestLine_custodian ⟨hr, hd fun g hg => ?_⟩ (hserve.trans (by rw [hlv]))
    by_contra hno
    rw [hg, enrolLevel, if_neg hno] at hlv
    cases hlv

theorem heardDual_restartDual : restartDual (heardDual s) = heardDual s := restartDual_idem (heard s)

/-- R28: an ID that is no entry's comes first. -/
theorem enrolCustodian_range (h : n = 0 ∨ 12 < n) (hn : n < 10 ^ 8) :
    enrolCustodian (.val n) group label s = refuse .range (restartDual s) := by
  rw [enrolCustodian, num_val hn]
  exact if_pos (id_outside h)

section inRange
variable (h1 : 1 ≤ n) (h2 : n ≤ 12)
include h1 h2

theorem enrolCustodian_badSyntax
    (h : (∀ g, group ≠ .val g) ∨ ∃ l, label = .val l ∧ (12 < l.length ∨ l.all isPrintable = false)) :
    enrolCustodian (.val n) group label s = refuse .badSyntax (restartDual s) := by
  rw [enrolCustodian, num_val (by omega)]
  dsimp only
  rw [id_inRange h1 h2, if_neg Bool.false_ne_true]
  cases group with
  | absent => rfl
  | malformed => rfl
  | val g =>
    obtain ⟨l, rfl, hl⟩ := h.resolve_left fun hg => hg g rfl
    refine if_pos ?_
    rcases hl with hl | hl
    · simp [fitsText, Nat.not_le.2 hl]
    · simp only [fitsText, Option.getD_some, hl, Bool.and_false, Bool.not_false]

/-- R28: with its arguments in form, the request asks for an EMPTY entry. -/
theorem enrolCustodian_fit {g : Group} {l : Option Text} (hl : ∀ x, l = some x → x.length ≤ 12 ∧ x.all isPrintable = true) :
    enrolCustodian (.val n) (.val g) (optArg l) s = if (s.custodianAt n).isSome then refuse .wrongState (restartDual s)
      else (.ok [fId n, fState "PENDING", .field "GROUP" (.word g.word), .field "LABEL" (.label (l.getD []))],
          (restartDual s).setCustodian n
            (some { state := .pending, group := g, label := l.getD [], verifier := none, failed := 0 })) := by
  have hfit : fitsText 12 (l.getD []) = true := by
    cases l with
    | none => rfl
    | some x => simpa only [fitsText, Option.getD_some, Bool.and_eq_true, decide_eq_true_eq] using hl x rfl
  rw [enrolCustodian, num_val (by omega)]
  dsimp only
  rw [id_inRange h1 h2, if_neg Bool.false_ne_true, Arg.need]
  simp only [opt_optArg, hfit, Bool.not_true, Bool.false_eq_true, if_false, restartDual_custodianAt]
  cases s.custodianAt n with
  | none => rfl
  | some c => rfl

/-- R29: REMOVE-CUSTODIAN, by what it finds. -/
theorem removeCustodian_val : removeCustodian (.val n) s = if (s.custodianAt n).isNone then refuse .wrongState s
    else if s.auth.sessions.contains n then refuse .inUse s
    else (.ok [fId n, fState "EMPTY"], s.setCustodian n none) := by
  rw [removeCustodian, num_val (by omega), id_inRange h1 h2, if_neg Bool.false_ne_true]
  cases s.custodianAt n with
  | none => rfl
  | some c => rfl

/-- R30: UNLOCK-CUSTODIAN, by what it finds. -/
theorem unlockCustodian_locked {c : Custodian} (hc : s.custodianAt n = some c) (hst : c.state = .locked) :
    unlockCustodian (.val n) s = (.ok [fId n, fState "PENDING"], s.setCustodian n (some c.toPending)) := by
  rw [unlockCustodian, num_val (by omega), id_inRange h1 h2, if_neg Bool.false_ne_true]
  simp [hc, hst]

theorem unlockCustodian_other (h : (s.custodianAt n).map Custodian.state ≠ some .locked) :
    unlockCustodian (.val n) s = refuse .wrongState s := by
  rw [unlockCustodian, num_val (by omega), id_inRange h1 h2, if_neg Bool.false_ne_true]
  cases hc : s.custodianAt n with
  | none => rfl
  | some c =>
    rw [hc, Option.map_some, ne_eq, Option.some.injEq] at h
    exact if_neg h

end inRange

theorem removeCustodian_range (h : n = 0 ∨ 12 < n) (hn : n < 10 ^ 8) :
    removeCustodian (.val n) s = refuse .range s := by
  rw [removeCustodian, num_val hn]
  exact if_pos (id_outside h)

theorem unlockCustodian_range (h : n = 0 ∨ 12 < n) (hn : n < 10 ^ 8) :
    unlockCustodian (.val n) s = refuse .range s := by
  rw [unlockCustodian, num_val hn]
  exact if_pos (id_outside h)

end

/-- Settles O12: ENROL-CUSTODIAN reaches its owner as `exec_enrolCustodian` says, REMOVE-CUSTODIAN in DUAL. -/
theorem rosterRequests : Obligations.RosterRequests := by
  refine ⟨fun s tag n g label hr hd h1 h2 hn hl => ?_,
    fun s tag n group label hr hd hn => ⟨fun h => ?_, fun h1 h2 => ⟨fun h => ?_, fun g l hg hlab hl hsome => ?_⟩⟩,
    fun s tag n hr hn => ⟨fun h => ?_, fun h1 h2 => ⟨fun h => ?_, fun c hc => ?_⟩⟩⟩
  · rw [exec_enrolCustodian hr fun h => hd (h g rfl), enrolCustodian_fit h1 h2 hl, heardDual_restartDual,
      heardDual_custodianAt, hn]
    rfl
  · rw [exec_enrolCustodian hr hd, enrolCustodian_range h hn, heardDual_restartDual]
    rfl
  · rw [exec_enrolCustodian hr hd, enrolCustodian_badSyntax h1 h2 h, heardDual_restartDual]
    rfl
  · obtain ⟨c, hc⟩ := Option.isSome_iff_exists.1 hsome
    subst hg hlab
    rw [exec_enrolCustodian hr hd, enrolCustodian_fit h1 h2 hl, heardDual_restartDual, heardDual_custodianAt, hc]
    rfl
  · exact custodian_err hr (removeCustodian (.val n)) rfl (removeCustodian_range h hn)
  · exact custodian_err hr (removeCustodian (.val n)) rfl
      (by rw [removeCustodian_val h1 h2, heardDual_custodianAt, h]; rfl)
  · have hremove : removeCustodian (.val n) (heardDual s) = if n ∈ s.auth.sessions then refuse .inUse (heardDual s)
        else (.ok [fId n, fState "EMPTY"], (heardDual s).setCustodian n none) := by
      rw [removeCustodian_val h1 h2, heardDual_custodianAt, hc, heardDual_sessions]
      simp only [List.contains_iff_mem, Option.isNone_some, Bool.false_eq_true, if_false]
    exact ⟨fun hmem => custodian_err hr (removeCustodian (.val n)) rfl (hremove.trans (if_pos hmem)),
      fun hmem => custodian_ok hr (removeCustodian (.val n)) rfl (hremove.trans (if_neg hmem))⟩

namespace Settled

/-- Settles O13: UNLOCK-CUSTODIAN by the entry it finds, and the logon of an entry that is PENDING. -/
theorem unlockCustodian : Obligations.UnlockCustodian := by
  refine ⟨fun s tag n hr hn => ⟨fun h => ?_, fun h1 h2 => ⟨fun h => ?_, fun c hc hst => ?_⟩⟩,
    fun s n c code hp h1 h2 hcode hc hst => ?_⟩
  · exact custodian_err hr (Machine.unlockCustodian (.val n)) rfl (unlockCustodian_range h hn)
  · exact custodian_err hr (Machine.unlockCustodian (.val n)) rfl (unlockCustodian_other h1 h2 (by simpa using h))
  · exact custodian_ok hr (Machine.unlockCustodian (.val n)) rfl
      (unlockCustodian_locked h1 h2 ((heardDual_custodianAt n).trans hc) hst)
  · exact panelLine_erred hp (logon_pending_entry (s := panelHeard s) h1 h2 hcode hc hst)

end Settled

/-- R40: the value that SET-DUAL-WINDOW stores. -/
theorem dualWindow_clamp (v : Nat) : clamp Config.dualWindowMin Config.dualWindowMax v =
    if v < 60 then 60 else if 1800 < v then 1800 else v := by
  simp only [clamp, Config.dualWindowMin, Config.dualWindowMax]
  split_ifs <;> omega

/-- R38: in DUAL the timer starts again from the dual window. -/
theorem restartDual_dual {s : State} (h : s.auth.state = .dual) :
    restartDual s = { s with auth := { s.auth with dualTimer := some s.auth.dualWindow } } := if_pos h

theorem dualWindow_of_settings {s t : State} (h : t.settings = s.settings) : t.auth.dualWindow = s.auth.dualWindow :=
  congrArg Prod.fst h

namespace Settled

/-- Settles O14: the clamped value is stored and the timer restarts from it; the reset events keep the settings. -/
theorem setDualWindow : Obligations.SetDualWindow := by
  refine ⟨rfl, fun s tag v hv => ⟨fun hr => ?_, fun hr hd => ?_⟩, fun s t a b c d h => ?_⟩
  · refine custodian_ok hr (Machine.setDualWindow (.val v)) rfl ?_
    rw [Machine.setDualWindow, num_val hv, dualWindow_clamp, heardDual, restartDual_dual (s := heard s) hr.2]
    exact congrArg (Prod.mk _) (restartDual_dual (s := { heard s with auth := _ }) hr.2)
  · exact requestLine_unadmitted (h := Machine.setDualWindow (.val v)) hr hd rfl
  · rcases h with h | h | h | h <;> cases h
    · exact dualWindow_of_settings (powerLoss_settings s)
    · exact dualWindow_of_settings (powerOn_settings s)
    · exact dualWindow_of_settings (startUpAfterRestart_settings s)
    · exact dualWindow_of_settings (selfTestComplete_settings s a b c d)

end Settled

end Sys2Proof.Machine

namespace Sys2Proof.Machine

/-! ## The Component Assembler: SHOW and its two requests (R36, R42, R50, R51): O17, O19, O20 -/

/-- R36: a list of ids, as the lines write it. -/
theorem ids_eq (l : List Nat) :
    ids l = .raw (if l = [] then txt "NONE" else ((l.map dec).intersperse (txt ",")).flatten) := by
  simp [ids, commaList]

namespace Settled

/-- Settles O17: SHOW leaves the state it is given, and its ids are written as `ids_eq` says. -/
theorem showPanel : Obligations.Show := by
  refine fun s hp => panelLine_said hp (Prod.ext (congrArg PanelAnswer.ok ?_) rfl) rfl
  cases h : s.asm.record with
  | none => simp [ids_eq, panelHeard, h]
  | some a =>
    cases hheld : a.held with
    | none => simp [ids_eq, panelHeard, h, hheld, Function.comp_def]
    | some c => simp [ids_eq, panelHeard, h, hheld, Function.comp_def]

end Settled

section
variable {s : State} {slot len parts kver : Nat} {cls : KeyClass} {family : Family} {alg : AlgPair}
  {cv : Option CheckValue} {label : Text} {budget : Option Budget}

/-- R42: the record that ASSEMBLE-BEGIN opens as assembly `number`. -/
def Assembly.opened (slot parts : Nat) (cv : Option CheckValue) (alg : AlgPair) (number : BitVec 16) : Assembly :=
  { slot := slot, parts := parts, expected := cv, alg := alg, done := [], acc := List.replicate alg.keyLen 0,
    held := none, phase := .collecting, number := number, finished := none, finishedCv := none }

/-- R42: the slot that ASSEMBLE-BEGIN makes ASSEMBLING. -/
def SlotRec.opened (cls : KeyClass) (alg : AlgPair) (label : Text) (kver : Nat) (budget : Option Budget) : SlotRec :=
  { state := .assembling, cls := cls, alg := alg, label := label, kver := kver,
    allowance := budget.map fun b => { budget := b, reserved := 0 }, bound := [], material := none }

/-- R2: a pair's length. -/
theorem algPair?_le (h : algPair? family len = some alg) : len ≤ 32 := by
  unfold algPair? at h
  split at h <;> cases h <;> decide

/-- R42: with its arguments in form and in range, ASSEMBLE-BEGIN asks for the latch, an open assembly and the slot. -/
theorem assembleBegin_fit (hslot : slot < 64) (halg : algPair? family len = some alg) (hparts : parts = 2 ∨ parts = 3)
    (hkver : kver ≤ 255) (hlabel : fitsText 16 label = true) (hbudget : cls = .transport ↔ budget = none)
    (hcount : ∀ m, budget = some (.count m) → m ≤ 1000000) :
    assembleBegin
      { slot := .val slot, cls := .val cls, family := .val family, len := .val len, parts := .val parts,
        cv := optArg cv, label := .val label, kver := .val kver, budget := optArg budget } s =
      if s.latch then refuse .tampered s
      else if s.asm.record.isSome then refuse .busy s
      else if (s.slotAt slot).isSome then refuse .wrongState s
      else (.ok [.field "SLOT" (.num slot), .field "STATE" (.word "ASSEMBLING"), .field "PARTS" (.num parts)],
        { s.setSlot slot (some (.opened cls alg label kver budget)) with
          asm := { s.asm with
            count := s.asm.count + 1, record := some (.opened slot parts cv alg (s.asm.count + 1)) } }) := by
  have hlen := algPair?_le halg
  have hparts' : parts ≤ 3 := by omega
  rw [assembleBegin, num_val (by omega), Arg.need, Arg.need, num_val (by omega), num_val (by omega), opt_optArg, Arg.opt,
    optNum_val (by omega), opt_optArg]
  refine (if_neg ?form).trans ((if_neg ?range).trans ?_)
  case form =>
    rcases budget with _ | _ | m
    · simp [hlabel, hbudget.2 rfl]
    · simp [hlabel, mt hbudget.1]
    · have hm := hcount m rfl
      simp [hlabel, mt hbudget.1]
      omega
  case range =>
    have hthree := hparts.resolve_left
    rcases budget with _ | _ | m
    · simpa [assembleRange, hslot, halg, hkver] using hthree
    · simpa [assembleRange, hslot, halg, hkver] using hthree
    · simpa [assembleRange, hslot, halg, hkver, Config.budgetMax, hcount m rfl] using hthree
  rw [halg]
  rfl

end

/-! ### Cancelling (R50, R51) -/

/-- R50: what the cancelling of an open assembly does before host and panel are told. -/
def State.assemblyClosed (s : State) (a : Assembly) : State :=
  { (s.setSlot a.slot none).setAccount a.slot none with
    asm := { s.asm with record := none }
    cipher := { s.cipher with waiting := put s.cipher.waiting 8 none } }

theorem cancelAssembly_open {s : State} {a : Assembly} (cause : String) (h : s.asm.record = some a) :
    cancelAssembly cause s = raiseBoth [.word "ASSEMBLY", .field "SLOT" (.num a.slot),
      .field "RESULT" (.word "CANCELLED"), .field "CAUSE" (.word cause)] (s.assemblyClosed a) := by
  rw [cancelAssembly, h]
  rfl

theorem assembleCancel_open {s : State} {a : Assembly} (h : s.asm.record = some a) :
    assembleCancel s = (.ok [fSlot a.slot, fState "EMPTY"], cancelAssembly "REQUEST" s) := by
  rw [assembleCancel, h]

theorem assembleCancel_closed {s : State} (h : s.asm.record = none) : assembleCancel s = refuse .wrongState s := by
  rw [assembleCancel, h]

namespace Settled

/-- Settles O19: the request asks in the order of `assembleBegin_fit`. -/
theorem assembleBegin : Obligations.AssembleBegin := by
  intro s tag slot len parts kver cls family alg cv label budget hr hslot halg hparts hkver hlen hprint hbudget hcount
  have hlabel : fitsText 16 label = true := by simp [fitsText, hlen, hprint]
  have hfit := assembleBegin_fit (s := heardDual s) (cv := cv) hslot halg hparts hkver hlabel hbudget hcount
  rw [heardDual_latch, heardDual_asm, heardDual_slotAt] at hfit
  refine ⟨fun h => custodian_err hr _ rfl (hfit.trans ?_), fun h hrec => custodian_err hr _ rfl (hfit.trans ?_),
    fun h hrec hat => custodian_err hr _ rfl (hfit.trans ?_), fun h hrec hat => custodian_ok hr _ rfl (hfit.trans ?_)⟩
  · rw [if_pos h]; rfl
  · rw [h, if_neg Bool.false_ne_true, if_pos hrec]; rfl
  · rw [h, if_neg Bool.false_ne_true, hrec, if_neg (by simp), if_pos hat]; rfl
  · rw [h, if_neg Bool.false_ne_true, hrec, if_neg (by simp), hat, if_neg (by simp)]; rfl

/-- Settles O20: outside DUAL it is not admitted; in DUAL it is refused or cancels as `cancelAssembly_open` says. -/
theorem assembleCancel : Obligations.AssembleCancel := by
  refine fun s tag hr => ⟨fun hd => requestLine_unadmitted (h := Machine.assembleCancel) hr hd rfl, fun hd h => ?_,
    fun a hd h => ?_⟩
  · exact custodian_err ⟨hr, hd⟩ Machine.assembleCancel rfl (assembleCancel_closed (by rwa [heardDual_asm]))
  · have hopen : (heardDual s).asm.record = some a := by rwa [heardDual_asm]
    refine (custodian_ok ⟨hr, hd⟩ Machine.assembleCancel rfl
      ((assembleCancel_open hopen).trans (by rw [cancelAssembly_open _ hopen]))).trans ?_
    rw [State.assemblyClosed, heardDual_asm, heardDual_cipher]
    rfl

end Settled

/-! ## The components (R44, R46, R47): O21, O22 -/

section
variable {s : State} {n : Nat} {key : Text} {a : Assembly}

theorem post_panel (q : Nat) (r : CipherRequest) : (post q r s).1.panel = s.panel :=
  congrArg Prod.fst (post_outside s q r)

/-- R44: the checks of COMPONENT in their order, for the record that is open. -/
theorem component_open (h : s.asm.record = some a) : component n key s =
    if a.phase = .finishingCheck ∨ a.phase = .finishingTag then panelRefuse .busy s
    else if s.auth.state ≠ .dual then panelRefuse .notAuthorised s
    else if n ∉ s.auth.sessions then panelRefuse .notLoggedOn s
    else if a.held.isSome then panelRefuse .pending s
    else if n ∈ a.done.map Prod.fst then panelRefuse .contributed s
    else if key.length ≠ a.alg.keyLen then panelRefuse .length s
    else if a.alg.family = .block64 ∧ s.asm.policy = .strict ∧ key.all isOdd = false then panelRefuse .parity s
    else (.ok [.word "COMPONENT", .field "ID" (.num n), .word "CHECKING"],
      (post 8 (.asmCheck a.number a.alg key)
        (s.setAsm (some { a with held := some { id := n, bytes := key, cv := none }, phase := .checking }))).1) := by
  rw [component, h]
  simp only [Bool.or_eq_true, decide_eq_true_eq, Bool.not_eq_true', Bool.and_eq_true,
    List.contains_eq_mem, decide_eq_false_iff_not, and_assoc]
  rfl

theorem component_closed (h : s.asm.record = none) : component n key s = panelRefuse .noAssembly s := by
  rw [component, h]

end

namespace Settled

/-- Settles O21: each refusal is a branch of `component_open`, and so is the component that passes. -/
theorem component : Obligations.Component := by
  refine fun s n key hp => ⟨fun h => panelLine_erred hp (component_closed (s := panelHeard s) h), fun a h => ?_⟩
  have hopen := component_open (s := panelHeard s) (n := n) (key := key) h
  refine ⟨fun hphase => panelLine_erred hp (hopen.trans (if_pos hphase)), fun hcheck htag => ?_⟩
  replace hopen := hopen.trans (if_neg (not_or.2 ⟨hcheck, htag⟩))
  refine ⟨fun hd => panelLine_erred hp (hopen.trans (if_pos hd)), fun hd => ?_⟩
  replace hopen := hopen.trans (if_neg (not_not.2 hd))
  refine ⟨fun hid => panelLine_erred hp (hopen.trans (if_pos hid)), fun hid => ?_⟩
  replace hopen := hopen.trans (if_neg (not_not.2 hid))
  refine ⟨fun hheld => panelLine_erred hp (hopen.trans (if_pos hheld)), fun hheld => ?_⟩
  replace hopen := hopen.trans (if_neg (by simp [hheld]))
  refine ⟨fun hdone => panelLine_erred hp (hopen.trans (if_pos hdone)), fun hdone => ?_⟩
  replace hopen := hopen.trans (if_neg hdone)
  refine ⟨fun hlen => panelLine_erred hp (hopen.trans (if_pos hlen)), fun hlen => ?_⟩
  replace hopen := hopen.trans (if_neg (not_not.2 hlen))
  refine ⟨fun hpar => panelLine_erred hp (hopen.trans (if_pos hpar)), fun hpar => ?_⟩
  refine panelLine_said hp (hopen.trans (if_neg fun ⟨hfam, hpol, hodd⟩ => ?_)) (post_panel ..)
  rcases hpar with h | h | h
  · rw [h] at hfam; cases hfam
  · rw [show (panelHeard s).asm.policy = _ from h] at hpol; cases hpol
  · rw [h] at hodd; cases hodd

end Settled

section
variable {s : State} {n : Nat} {a : Assembly} {h : HeldComponent} {v : CheckValue}

/-- R47: the parity step, written out. -/
theorem parityStep_eq (f : Family) (key : Text) :
    parityStep f key = if f = .block64 then key.map fun b => if isOdd b then b else b ^^^ 1#8 else key := by
  cases f <;> rfl

/-- R46: the record after a YES of custodian `n`, while components are still wanted. -/
def Assembly.confirmed (a : Assembly) (h : HeldComponent) (n : Nat) (v : CheckValue) : Assembly :=
  { a with done := a.done ++ [(n, v)], acc := xorText a.acc h.bytes, held := none, phase := .collecting }

/-- R47: the record after the last YES, with the key that the components make. -/
def Assembly.finishing (a : Assembly) (h : HeldComponent) (n : Nat) (v : CheckValue) : Assembly :=
  { a.confirmed h n v with
    phase := .finishingCheck, finished := some (parityStep a.alg.family (xorText a.acc h.bytes)) }

section confirming
variable (hrec : s.asm.record = some a) (hphase : a.phase = .confirming) (hheld : a.held = some h)
include hrec hphase hheld

/-- R46: with a checked component held, CONFIRM asks for its custodian and for DUAL. -/
theorem confirmChecks_confirming (k : Assembly → HeldComponent → PanelAnswer × State) : confirmChecks n s k =
    if h.id ≠ n then panelRefuse .notHeld s
    else if s.auth.state ≠ .dual then panelRefuse .notAuthorised s else k a h := by
  simp [confirmChecks, hrec, hheld, hphase]

variable (hid : h.id = n) (hd : s.auth.state = .dual)
include hid hd

theorem confirmNo_taken : confirmNo n s = (.ok [.word "CONFIRM", .field "ID" (.num n), .word "DISCARDED"],
    s.setAsm (some { a with held := none, phase := .collecting })) :=
  (confirmChecks_confirming hrec hphase hheld _).trans ((if_neg (not_not.2 hid)).trans (if_neg (not_not.2 hd)))

/-- R46, R47: a YES takes the component, and the last one finishes the key. -/
theorem confirmYes_taken (hv : h.cv = some v) : confirmYes n s =
    (.ok [.word "CONFIRM", .field "ID" (.num n),
        .field "PARTS" (.raw (dec (a.done.length + 1) ++ txt "/" ++ dec a.parts))],
      if a.parts ≤ a.done.length + 1 then
        (post 8 (.asmCheck a.number a.alg (parityStep a.alg.family (xorText a.acc h.bytes)))
          (s.setAsm (some (a.finishing h n v)))).1
      else s.setAsm (some (a.confirmed h n v))) := by
  rw [confirmYes, confirmChecks_confirming hrec hphase hheld, if_neg (not_not.2 hid), if_neg (not_not.2 hd)]
  simp only [hv, Option.getD_some, List.length_append, List.length_singleton]
  rfl

end confirming

end

/-- Settles O22: CONFIRM by its checks, then NO, a YES before the last, and the last YES. -/
theorem confirm : Obligations.Confirm := by
  refine ⟨fun s n a h v hp hrec hphase hheld hv => ⟨fun hid => ?_, fun hid hd => ?_, fun hid hd => ⟨?_, fun hmore => ?_⟩⟩,
    fun s n a h v key hp hrec hphase hheld hv hid hd hlast hkey => ?_⟩
  · have hchecks k := (confirmChecks_confirming (s := panelHeard s) (n := n) hrec hphase hheld k).trans (if_pos hid)
    exact ⟨panelLine_erred hp (hchecks _), panelLine_erred hp (hchecks _)⟩
  · have hchecks k := (confirmChecks_confirming (s := panelHeard s) (n := n) hrec hphase hheld k).trans
      ((if_neg (not_not.2 hid)).trans (if_pos hd))
    exact ⟨panelLine_erred hp (hchecks _), panelLine_erred hp (hchecks _)⟩
  · exact panelLine_said hp (confirmNo_taken (s := panelHeard s) hrec hphase hheld hid hd) rfl
  · have hyes := confirmYes_taken (s := panelHeard s) hrec hphase hheld hid hd hv
    rw [if_neg (by omega)] at hyes
    exact panelLine_said hp hyes rfl
  · have hyes := confirmYes_taken (s := panelHeard s) hrec hphase hheld hid hd hv
    rw [if_pos (by omega), hlast] at hyes
    rw [← parityStep_eq] at hkey
    subst hkey
    exact panelLine_said hp hyes (post_panel ..)

end Sys2Proof.Machine

namespace Sys2Proof.Machine

/-! ## The Panel Port (R31, R32): O18 -/

/-! ### The command of a line -/

/-- Table 2-4: the lines of the catalogue are the panel's commands, each the event of its own line. -/
theorem exec_of_panelCatalogue {c : PanelCommand} {f : Fields} {i : Instr} (hc : c ∈ panelCatalogue)
    (hi : c.make f = some i) (s : State) : exec i s = panelLine i s := by
  simp only [panelCatalogue, List.mem_cons, List.not_mem_nil, or_false] at hc
  rcases hc with rfl | rfl | rfl | rfl | rfl | rfl <;>
    simp only [Option.bind_eq_some_iff, Option.map_eq_some_iff, Option.some.injEq] at hi
  · obtain ⟨n, -, code, -, again, -, rfl⟩ := hi
    rfl
  · obtain ⟨n, -, code, -, rfl⟩ := hi
    rfl
  · obtain ⟨n, -, rfl⟩ := hi
    rfl
  · cases hi
    rfl
  · obtain ⟨n, -, key, -, rfl⟩ := hi
    rfl
  · obtain ⟨n, -, yes, -, rfl⟩ := hi
    cases yes with
    | true => rfl
    | false => rfl

theorem exec_of_readPanel {t : Text} {i : Instr} (h : readPanel t = .command i) (s : State) :
    exec i s = panelLine i s := by
  unfold readPanel at h
  dsimp only at h
  split at h
  · cases h
  · rename_i c hfind
    split_ifs at h
    split at h
    · rename_i j hmake
      obtain ⟨f, -, hf⟩ := Option.bind_eq_some_iff.1 hmake
      cases h
      exact exec_of_panelCatalogue (List.mem_of_find?_eq_some hfind) hf s
    · cases h

/-! ### The characters of a line -/

section
variable {s : State}

/-- R32: at a port that is open, the LF of a CR LF ends the line. -/
theorem panelCharacter_lf (hopen : panelOpen s = true) (hcr : s.panel.cr = true) :
    panelCharacter 0x0A s = panelLineEnds (readPanel s.panel.buffer) s := by
  simp [panelCharacter, hopen, hcr, chLF]

/-- R32: at a port that is open, any character that does not end the line is received. -/
theorem panelCharacter_receive (hopen : panelOpen s = true) (hcr : s.panel.cr = false) (c : Byte) :
    panelCharacter c s = { s with panel := s.panel.receive c } := by
  simp [panelCharacter, hopen, hcr]

theorem receive_cr {p : PanelPort} (hheld : p.held = none) (hcr : p.cr = false) :
    p.receive 0x0D = { p with cr := true } := by
  simp [PanelPort.receive, hheld, hcr, chCR]

theorem receive_other {p : PanelPort} {c : Byte} (hheld : p.held = none) (hcr : p.cr = false) (hc : c ≠ 0x0D) :
    p.receive c = p.add [c] := by
  have hc' : ¬ c = chCR := hc
  simp [PanelPort.receive, hheld, hcr, hc']

section adds
variable {p : PanelPort} (hskip : p.skip = false) (hlong : p.long = false) (c : Byte)
include hskip hlong

/-- R31: a character joins the line while there is room. -/
theorem add_room (h : p.buffer.length < 120) : p.add [c] = { p with buffer := p.buffer ++ [c] } := by
  have hroom : p.buffer.length < Config.panelLineMax := h
  simp [PanelPort.add, hskip, hlong, hroom]

theorem add_full (h : p.buffer.length = 120) : p.add [c] = { p with buffer := [], long := true } := by
  simp [PanelPort.add, hskip, hlong, h, Config.panelLineMax]

end adds

/-! ### The ending of a line -/

/-- R31: an over-long line is refused LONG, whatever its text. -/
theorem panelLineEnds_long (hopen : panelOpen s = true) (hheld : s.panel.held = none) (hskip : s.panel.skip = false)
    (hlong : s.panel.long = true) (hbusy : panelBusy s = false) (l : PanelLine) :
    panelLineEnds l s = handlePanel (.refused .long) (panelHeard s) := by
  simp [panelLineEnds, panelEnds, hopen, hheld, hskip, hlong, hbusy, panelHeard]

theorem handlePanel_refused {w : RefusedPanelLine} {e : PanelErr} (h : panelAnswer (.refused w) s = (.err e, s)) :
    finish (handlePanel (.refused w) s) = .next (panelErred e s) :=
  congrArg finish (panelServe_err h)

/-- R32: an output queue that begins with a message, and one that begins with a reply. -/
theorem panelMessageSent_message {l : Line} {rest : List PanelOut}
    (h : s.panel.out = { isReply := false, line := l } :: rest) :
    panelMessageSent s = { s with panel := { s.panel with out := rest } } := by
  simp [panelMessageSent, h]

theorem panelReplySent_reply {l : Line} {rest : List PanelOut}
    (h : s.panel.out = { isReply := true, line := l } :: rest) :
    panelReplySent s = panelHeld { s with panel := { s.panel with out := rest } } := by
  simp [panelReplySent, h]

theorem panelHeld_none (h : s.panel.held = none) : panelHeld s = s := by rw [panelHeld, h]

theorem panelHeld_some {w : PanelLine} (h : s.panel.held = some w) :
    panelHeld s = handlePanel w { s with panel := { s.panel with held := none } } := by rw [panelHeld, h]

end

/-- Settles O18: the refused lines, the queue, the over-long line and the characters, each by its lemma above; the line that
a CR LF ends is the command of its text by `exec_of_readPanel`. -/
theorem panelPort : Obligations.PanelPort := by
  refine ⟨fun s hp => ?_, fun s l rest => ⟨fun h => ?_, fun h => ⟨fun hheld => ?_, fun w hheld => ?_⟩⟩,
    fun s hopen hheld hskip hcr hlong hbusy => ?_,
    fun s c hopen hheld hskip hlong => ⟨fun hcr hc hlen => ?_, fun hcr hc hlen => ?_, fun hcr => ?_,
      fun hcr => ⟨fun w hw => ?_, fun i hi => ?_⟩⟩⟩
  · have hends (w : RefusedPanelLine) : exec (.panelLineRefused w) s = finish (handlePanel (.refused w) (panelHeard s)) :=
      congrArg finish (panelLineEnds_ready hp (.refused w))
    exact ⟨(hends _).trans (handlePanel_refused rfl), (hends _).trans (handlePanel_refused rfl),
      (hends _).trans (handlePanel_refused rfl)⟩
  · exact congrArg finish (panelMessageSent_message h)
  · exact congrArg finish ((panelReplySent_reply h).trans (panelHeld_none hheld))
  · exact congrArg finish ((panelReplySent_reply h).trans (panelHeld_some hheld))
  · exact (congrArg finish ((panelCharacter_lf hopen hcr).trans (panelLineEnds_long hopen hheld hskip hlong hbusy _))).trans
      (handlePanel_refused rfl)
  · refine (congrArg finish (panelCharacter_receive hopen hcr c)).trans ?_
    rw [receive_other hheld hcr hc, add_full hskip hlong c hlen]
    rfl
  · refine (congrArg finish (panelCharacter_receive hopen hcr c)).trans ?_
    rw [receive_other hheld hcr hc, add_room hskip hlong c hlen]
    rfl
  · refine (congrArg finish (panelCharacter_receive hopen hcr 0x0D)).trans ?_
    rw [receive_cr hheld hcr]
    rfl
  · exact congrArg finish ((panelCharacter_lf hopen hcr).trans (by rw [hw]))
  · refine (congrArg finish ((panelCharacter_lf hopen hcr).trans (by rw [hi]))).trans ?_
    exact (exec_of_readPanel hi s).symm

end Sys2Proof.Machine
